-- ==== Sys2Proof/Word.lean ====
section
/-! DEFINITION. The byte of records, of the stored image and of the flash. -/

namespace Sys2Proof

/-- One byte of a record, of the stored image or of the flash. -/
abbrev Byte := BitVec 8

end Sys2Proof
end

