-- ==== Sys2Proof/Syntax.lean ====
section
/-! DEFINITION. The commands of the Galjer 24C: one constructor of `Instr` per row of spec/opcode_table.json.
Fields of a request are the raw codes its record carries (R167), so that every code outside a field's values is a term. -/

namespace Sys2Proof

/-- The two ports (chapter 10). -/
inductive Port where
  | tether
  | service
  deriving DecidableEq, Repr

/-- The two rates of the tether link (R164). -/
inductive Rate where
  | full
  | reduced
  deriving DecidableEq, Repr

/-- The two view slots (section 4.5). -/
inductive View where
  | a
  | b
  deriving DecidableEq, Repr

/-- The four head inputs of Table 9-1. -/
inductive HeadInput where
  | leak
  | warm
  | hot
  | present
  deriving DecidableEq, Repr

/-- The header of a request as the Dispatcher sees it: the port it arrived at and its tag (R166). -/
structure Req where
  port : Port
  tag : Nat
  deriving DecidableEq, Repr

/-- The strap inputs sampled at power-on and external reset (R176). -/
structure Straps where
  svcAddr : Nat
  rateAlt : Bool
  startRate : Rate
  storeEn : Bool
  deriving DecidableEq, Repr

/-- A lighting pattern: its length, and bit p set when position p is lit (R4, R167). -/
structure PatternArg where
  length : Nat
  lit : Nat
  deriving DecidableEq, Repr

/-- The target of Pin Frame and Release Frame: NEXT, TAG t, or another form code (R17, R18). -/
inductive FrameTarget where
  | next
  | tag (t : Nat)
  | other (code : Nat)
  deriving DecidableEq, Repr

/-- A map name code and a region (R41). -/
structure RegionArg where
  map : Nat
  x0 : Nat
  y0 : Nat
  w : Nat
  h : Nat
  deriving DecidableEq, Repr

/-- The fields of a profile descriptor as a record carries them (Table 4-1). The output centre and the start angle
both have their place in the record; the place that does not belong to the kind is not used (R64). -/
structure ProfileArg where
  present : Nat
  kind : Nat
  level : Nat
  width : Nat
  height : Nat
  ocx : Int
  ocy : Int
  startAngle : Nat
  scx : Int
  scy : Int
  radius : Nat
  table : Nat
  step : Nat
  fill : Nat
  format : Nat
  mark : Nat
  deriving DecidableEq, Repr

/-- The five settable fields of a channel (R116). -/
structure ChannelArg where
  enabled : Nat
  dmin : Nat
  dmax : Nat
  start : Nat
  limit : Nat
  deriving DecidableEq, Repr

/-- The nine balance settings (Table 7-3). -/
structure BalanceArg where
  loopMode : Nat
  target : Nat
  kp : Nat
  slew : Nat
  deadband : Nat
  mask : Nat
  autoExposure : Nat
  margin : Nat
  forced : Nat
  deriving DecidableEq, Repr

/-- Severity and mask of one fault kind (R161). -/
structure PolicyArg where
  severity : Nat
  mask : Nat
  deriving DecidableEq, Repr

/-- The four input lines as a read delivers them, true for a line reading 1 (R153). -/
structure InputValues where
  leak : Bool
  warm : Bool
  hot : Bool
  present : Bool
  deriving DecidableEq, Repr

/-- The commands: the requests as the Dispatcher takes them, and the events of the part and of the world around it. -/
inductive Instr where
  -- resets and ports
  | powerOn (straps : Straps)
  | externalReset (straps : Straps)
  | recordReceived (port : Port) (addr : Nat) (bytes : List Byte)
  | serviceRead (addr count : Nat)
  | unknownKind (q : Req) (kind : Nat)
  | queryStatus (q : Req)
  | enterSetup (q : Req)
  | enterRun (q : Req)
  | restart (q : Req)
  | restartReplyTimeout
  -- chapter 1
  | setTiming (q : Req) (period : Option Nat) (pattern : Option PatternArg) (index : Option Nat)
  | writeExposureTable (q : Req) (entries : List Nat)
  | pinFrame (q : Req) (target : FrameTarget)
  | releaseFrame (q : Req) (target : FrameTarget)
  | queryFrames (q : Req)
  -- chapter 2
  | writeSectorMap (q : Req) (entries : List Nat)
  | writeStatisticsSettings (q : Req) (glareLevel hotThreshold : Nat)
  | writeToneSegment (q : Req) (segment : Nat) (entries : List Nat)
  | queryStatistics (q : Req)
  -- chapter 3
  | readMapRegion (q : Req) (r : RegionArg)
  | readMapRegionLinked (q : Req) (r : RegionArg)
  | writeMapRegion (q : Req) (r : RegionArg) (entries : List Nat)
  | writeMapRegionConditional (q : Req) (r : RegionArg) (entries : List Nat)
  | setDarkRefresh (q : Req) (enable shift : Nat)
  | startDarkAcquisition (q : Req) (frames : Nat)
  | startFlatFieldAcquisition (q : Req) (frames target : Nat)
  | abortAcquisition (q : Req)
  -- chapter 4
  | writeProfile (q : Req) (selector : Nat) (d : ProfileArg)
  | readProfile (q : Req) (selector : Nat)
  | setProfileLimit (q : Req) (limit : Nat)
  | writeRadialTable (q : Req) (table : Nat) (entries : List Nat)
  | readRadialTable (q : Req) (table : Nat)
  | bindView (q : Req) (slot selector : Nat)
  | queryViews (q : Req)
  -- chapter 6
  | reviewFrame (q : Req) (tag slot : Nat)
  -- chapter 7
  | writeChannelTable (q : Req) (channel : Nat) (c : ChannelArg)
  | writeRingBudget (q : Req) (budget : Nat)
  | writeBalanceSettings (q : Req) (b : BalanceArg)
  | writeGlareTable (q : Req) (segment : Nat) (entries : List Nat)
  | setDrive (q : Req) (codes : List Nat)
  | queryBalance (q : Req)
  -- chapter 8
  | writeSupervisionLimits (q : Req) (total dimCount offCount openLevel : Nat)
  | queryTrip (q : Req)
  -- chapter 9
  | queryFaults (q : Req)
  | clearFaults (q : Req) (kinds : List Nat)
  | setFaultPolicy (q : Req) (policy : List PolicyArg) (lineEnable : Nat)
  | queryHead (q : Req)
  -- chapter 11
  | storeWritePage (q : Req) (page : Nat) (bytes : List Byte)
  | storeReadPage (q : Req) (page : Nat)
  | storeCheck (q : Req)
  | pageWriteEnd
  | storeCheckEnd
  | storeImageRead
  | storedRecordApply
  -- frame events
  | frameStart
  | exposureEnd (samples : List Nat)
  | sensorRow (pixels : List Nat)
  | readoutCompletionLit
  | readoutCompletionDark
  | sensorTimeout
  -- warp, mesh and transmitter events
  | warpTileComplete (faulty : List Nat)
  | imageRecordPlace
  | buildCompletion (view : View)
  | recordSent
  -- link events
  | linkTrainingSuccess
  | linkTrainingFailure
  | retrainTimerExpiry
  | linkLoss
  -- head events
  | expanderInterrupt (active : Bool)
  | pollTimerExpiry
  | confirmationTimerExpiry (input : HeadInput)
  | inputReadEnd (acknowledged : Bool) (values : InputValues) (started : Nat)
  | supplyWriteEnd (acknowledged : Bool)
  | setUpWriteEnd (acknowledged : Bool)
  deriving DecidableEq, Repr

end Sys2Proof
end

