-- ==== Sys2Proof/Config.lean ====
section
/-! DEFINITION. What an implementation fixes (queue capacities) and the free values: constants with no body, about which
nothing can be proved. -/

namespace Sys2Proof.Config

/-- Places of the tether request queue (R168). -/
def tetherRequestPlaces : Nat := 8
/-- Places of the service request queue (R168). -/
def serviceRequestPlaces : Nat := 2
/-- Places of the tether reply queue (R170). -/
def tetherReplyPlaces : Nat := 8
/-- Places of the service reply queue (R171). -/
def serviceReplyPlaces : Nat := 2
/-- Places of the notice queue (R170). -/
def noticePlaces : Nat := 8
/-- Places of the image queue (R110). -/
def imagePlaces : Nat := 16

/-- FREE VALUE (log 6): byte `offset` of a page left undefined by a reset in the middle of its write (R180), for the
stamp the state gave that page. -/
opaque freeFlashByte (stamp offset : Nat) : Byte

/-- FREE VALUE (log 7): the tag that Query Frames reports for a FREE slot, which is meaningless (Table 1-2). -/
opaque freeSlotTag (count slot : Nat) : Nat

/-- FREE VALUE (log 25): the computed CRC-32 that Store Check reports when the image length of the header is beyond the
flash, so that no such CRC exists (R181). -/
opaque freeCheckCrc (count : Nat) : Nat

end Sys2Proof.Config
end

