-- ==== Sys2Proof/Machine/State.lean ====
section
/-! DEFINITION. The state of the Galjer 24C as plain data, block by block, and its value after reset. -/

namespace Sys2Proof.Machine

/-! ### Enumerations -/

/-- Part mode (R172). -/
inductive Mode where
  | boot | setup | run
  deriving DecidableEq, Repr

/-- The Capture Controller's states (section 1.1). -/
inductive CaptureMode where
  | stopped | exposing | readout | waiting
  deriving DecidableEq, Repr

/-- Class of a frame (R10 (2)). -/
inductive FrameClass where
  | lit | darkPattern | darkAcquisition
  deriving DecidableEq, Repr

/-- State of a frame slot (R7). -/
inductive SlotState where
  | free | filling | held
  deriving DecidableEq, Repr

/-- Kind of an acquisition (Table 3-5). -/
inductive AcqKind where
  | dark | flat
  deriving DecidableEq, Repr

/-- Outcome of an acquisition (Table 10-1). -/
inductive AcqOutcome where
  | complete | aborted | failed
  deriving DecidableEq, Repr

/-- The two maps (Table 3-1). -/
inductive MapName where
  | dark | gain
  deriving DecidableEq, Repr

/-- Link states (Figure 10-1). -/
inductive LinkState where
  | down | training | up
  deriving DecidableEq, Repr

/-- Ring states (Table 7-2). -/
inductive RingState where
  | off | lit | dim | lockedOff | absent
  deriving DecidableEq, Repr

/-- Trip level (R143). -/
inductive TripLevel where
  | none | one | two
  deriving DecidableEq, Repr

/-- Channel state (Table 7-1). -/
inductive ChannelState where
  | normal | opened | disabled
  deriving DecidableEq, Repr

/-- Temperature band (R118). -/
inductive Band where
  | normal | warm | hot
  deriving DecidableEq, Repr

/-- Loop mode (Table 7-3). -/
inductive LoopMode where
  | loop | manual
  deriving DecidableEq, Repr

/-- Glare responses (R130). -/
inductive Glare where
  | normal | hold | dimHot | shorten
  deriving DecidableEq, Repr

/-- Output format (Table 4-1). -/
inductive Format where
  | wide12 | tone8
  deriving DecidableEq, Repr

/-- Profile kind (Table 4-1). -/
inductive ProfileKind where
  | radial | unroll
  deriving DecidableEq, Repr

/-- The two levels of privilege, OPEN and PROTECTED (R65). -/
inductive Privilege where
  | openLevel | protectedLevel
  deriving DecidableEq, Repr

/-- Bound mark of a profile (Table 4-1, R73). -/
inductive Mark where
  | none | aActive | aPending | bActive | bPending
  deriving DecidableEq, Repr

/-- State of a mesh buffer (Table 5-2). -/
inductive BufferState where
  | free | building | ready | active | retiring
  deriving DecidableEq, Repr

/-- State of a pending build (Table 4-2). -/
inductive BuildState where
  | waiting | building | ready
  deriving DecidableEq, Repr

/-- Pending change of a view slot, with its pending build when it is PROFILE (R72). -/
inductive PendingChange where
  | absent
  | profile (selector : Nat) (build : BuildState)
  | unbind
  deriving DecidableEq, Repr

/-- Purpose of a warp entry (Table 6-1). -/
inductive Purpose where
  | live | review
  deriving DecidableEq, Repr

/-- States of the Warp Engine (section 6.3). -/
inductive Engine where
  | idle | running | closing
  deriving DecidableEq, Repr

/-- Severity of a fault kind (R158). -/
inductive Severity where
  | notice | serious | fatal
  deriving DecidableEq, Repr

/-- The twelve fault kinds, in the order of Table 9-2. -/
inductive FaultKind where
  | housingLeak | headHot | ringAbsent | channelOpen | ringDimTrip | ringOffTrip
  | expanderSilent | sensorTimeout | frameStoreEcc | storeImageBad | storeImageIrregular | linkLost
  deriving DecidableEq, Repr

/-- Accepted value of a head input (R151). -/
inductive Accepted where
  | unknown | active | inactive
  deriving DecidableEq, Repr

/-- Supply line value (R151). -/
inductive SupplyLine where
  | unknown | on | off
  deriving DecidableEq, Repr

/-- A transfer on the head I2C master (R152). -/
inductive Transfer where
  | read
  | supplyWrite (on : Bool)
  | setUp (on : Bool)
  deriving DecidableEq, Repr

/-- Load outcome (R179). -/
inductive LoadOutcome where
  | loaded | irregular | defaults
  deriving DecidableEq, Repr

/-! ### Records and waiting requests -/

/-- A record: kind, tag and payload; the frame around them is formed when it is read or sent (R166). -/
structure Record where
  kind : Nat
  tag : Nat
  payload : List Byte
  deriving DecidableEq, Repr

/-- A request waiting in a port's queue: one whose payload has the length its kind requires, read into its command, or a
record of a request kind whose payload has not (R169 (2)). Reading depends on the record alone, so it is done on
arrival. -/
inductive Waiting where
  | request (i : Instr)
  | malformed (kind tag : Nat)
  deriving DecidableEq, Repr

/-! ### Blocks -/

/-- Tether Port (R164 to R170). -/
structure Tether where
  link : LinkState
  offered : Rate
  startRate : Rate
  alternation : Bool
  /-- DOWN by a loss of lock: the next attempt is made at the rate offered, that of the lost link (R165) -/
  lostLock : Bool
  /-- bytes received and not yet consumed as a record (R166) -/
  rx : List Byte
  /-- framing error count -/
  errors : Nat
  /-- the record being sent -/
  sending : Option Record
  replies : List Record
  notices : List Record
  images : List Record
  deriving DecidableEq, Repr

/-- Service Port (R171). -/
structure Service where
  address : Nat
  replies : List Record
  /-- framing error count -/
  errors : Nat
  /-- bytes returned by the latest read transaction: the model's output field (log 30) -/
  out : List Byte
  deriving DecidableEq, Repr

/-- A map link (R44). -/
structure MapLink where
  map : MapName
  x0 : Nat
  y0 : Nat
  w : Nat
  h : Nat
  deriving DecidableEq, Repr

/-- A lighting pattern (R4): bit p of `lit` is set when position p is lit. -/
structure Pattern where
  length : Nat
  lit : Nat
  deriving DecidableEq, Repr

/-- The frame record (R98). -/
structure FrameRecord where
  index : Nat
  ring : RingState
  trip : TripLevel
  deriving DecidableEq, Repr

/-- The profile fields copied into a warp entry (Table 6-1). -/
structure ProfileCopy where
  width : Nat
  height : Nat
  scx : Int
  scy : Int
  radius : Nat
  fill : Nat
  format : Format
  deriving DecidableEq, Repr

/-- What the Capture Controller notes for a view of a frame's view set: the view slot, the active selector, the ACTIVE
buffer (0 or 1 within the slot) and the profile copy (R77, R98). -/
structure ViewNote where
  view : View
  selector : Nat
  buffer : Nat
  copy : ProfileCopy
  deriving DecidableEq, Repr

/-- The frame in exposure or readout (R10, R51, R98). -/
structure Frame where
  tag : Nat
  cls : FrameClass
  /-- the acquisition noted at its frame start, its mark (R51) -/
  acq : Option (AcqKind × Nat)
  slot : Option Nat
  views : List ViewNote
  record : FrameRecord
  deriving DecidableEq, Repr

/-- Capture Controller (chapter 1). -/
structure Capture where
  mode : CaptureMode
  period : Nat
  pendingPeriod : Option Nat
  table : List Nat
  pendingTable : Option (List Nat)
  requested : Nat
  /-- index in effect -/
  index : Nat
  /-- exposure time of the latest frame start, 10 µs -/
  exposure : Nat
  pattern : Pattern
  pendingPattern : Option Pattern
  position : Nat
  tag : Nat
  latestClass : Option FrameClass
  /-- kind and number of the acquisition in flight at the latest frame start in RUN, a missed one included (R51) -/
  latestAcq : Option (AcqKind × Nat)
  skipA : Nat
  skipB : Nat
  frame : Option Frame
  /-- rows of the frame that have arrived -/
  rows : Nat
  /-- raw zone sums of a dark frame -/
  zoneSums : List Nat
  deriving DecidableEq, Repr

/-- A frame slot (Table 1-2), with the frame record it keeps while HELD (R98). -/
structure FrameSlot where
  state : SlotState
  tag : Nat
  pinned : Bool
  count : Nat
  record : FrameRecord
  deriving DecidableEq, Repr

/-- Per-frame accumulators (Table 2-3). -/
structure Accumulators where
  sums : List Nat
  counts : List Nat
  hots : List Nat
  zoneC : List Nat
  deriving DecidableEq, Repr

/-- Sector statistics record (Table 2-4); the measured hot set and the hot pattern have bit k for sector k. -/
structure SectorStats where
  tag : Nat
  zoneCounts : List Nat
  means : List Nat
  hots : List Nat
  measured : Nat
  pattern : Nat
  deriving DecidableEq, Repr

/-- Pixel Conditioner (chapter 2). -/
structure Conditioner where
  dark : List Nat
  gain : List Nat
  /-- map change pending mark -/
  changed : Bool
  sectorMap : List Nat
  zoneCounts : List Nat
  glareLevel : Nat
  hotThreshold : Nat
  tone : List Nat
  acc : Option Accumulators
  latest : Option SectorStats
  deriving DecidableEq, Repr

/-- Acquisition context (Table 3-5); `target` is used by FLAT only. -/
structure Acquisition where
  kind : AcqKind
  frames : Nat
  taken : Nat
  number : Nat
  target : Nat
  totals : List Nat
  deriving DecidableEq, Repr

/-- Calibration Map Unit (chapter 3). -/
structure CalUnit where
  dark : List Nat
  gain : List Nat
  refresh : Bool
  shift : Nat
  acq : Option Acquisition
  counter : Nat
  deriving DecidableEq, Repr

/-- A profile descriptor (Table 4-1). The output centre is 0, 0 in an UNROLL profile and the start angle 0 in a RADIAL
one (R64). -/
structure Profile where
  present : Bool
  kind : ProfileKind
  level : Privilege
  width : Nat
  height : Nat
  ocx : Int
  ocy : Int
  startAngle : Nat
  scx : Int
  scy : Int
  radius : Nat
  table : Nat
  step : Nat
  fill : Nat
  format : Format
  mark : Mark
  deriving DecidableEq, Repr

/-- Profile Table (sections 4.1 and 4.4). -/
structure ProfileTable where
  limit : Nat
  profiles : List Profile
  radial : List (List Nat)
  holds : List Nat
  deriving DecidableEq, Repr

/-- A mesh node (R82). -/
structure Node where
  sx : Int
  sy : Int
  valid : Bool
  deriving DecidableEq, Repr

/-- A mesh buffer (R83). -/
structure MeshBuffer where
  state : BufferState
  selector : Option Nat
  nodeCount : Nat
  uses : Nat
  nodes : List Node
  deriving DecidableEq, Repr

/-- A view slot (Table 4-2) with its two mesh buffers. -/
structure ViewSlot where
  active : Nat
  activeBuffer : Option Nat
  pending : PendingChange
  buffer0 : MeshBuffer
  buffer1 : MeshBuffer
  deriving DecidableEq, Repr

/-- A warp entry (Table 6-1). -/
structure WarpEntry where
  purpose : Purpose
  slot : Nat
  tag : Nat
  view : View
  buffer : Nat
  selector : Nat
  copy : ProfileCopy
  record : FrameRecord
  deriving DecidableEq, Repr

/-- What a running warp waits to place (R110). -/
inductive WarpWait where
  | nothing
  | frameBegin
  | tile (r : Record)
  deriving DecidableEq, Repr

/-- An owed FRAME END (R103, R113). -/
structure OwedEnd where
  view : View
  tag : Nat
  complete : Bool
  count : Nat
  deriving DecidableEq, Repr

/-- Warp Engine (chapter 6). The entry of a running warp is the head of the queue (R97). -/
structure Warp where
  queue : List WarpEntry
  engine : Engine
  waiting : WarpWait
  /-- next tile, in row-major order -/
  next : Nat
  /-- TILE records placed -/
  placed : Nat
  corrupt : Bool
  discarding : Bool
  owed : Option OwedEnd
  deriving DecidableEq, Repr

/-- An LED channel (Table 7-1). -/
structure Channel where
  enabled : Bool
  dmin : Nat
  dmax : Nat
  start : Nat
  limit : Nat
  state : ChannelState
  deriving DecidableEq, Repr

/-- Balance settings (Table 7-3); the masks have bit k for sector k. -/
structure Balance where
  loopMode : LoopMode
  target : Nat
  kp : Nat
  slew : Nat
  deadband : Nat
  mask : Nat
  autoExposure : Bool
  margin : Nat
  forced : Nat
  deriving DecidableEq, Repr

/-- Lock causes (R122 (2)). -/
structure LockCauses where
  offTrip : Bool
  leak : Bool
  silent : Bool
  deriving DecidableEq, Repr

/-- Outcome of a balance hand-over (R131). -/
inductive UpdateOutcome where
  | notLit
  | manual
  | held
  | applied (response : Glare) (scaled : Bool) (change : Int)
  deriving DecidableEq, Repr

/-- Last update (R131). -/
structure LastUpdate where
  tag : Nat
  outcome : UpdateOutcome
  deriving DecidableEq, Repr

/-- Ring Controller (chapter 7). -/
structure Ring where
  channels : List Channel
  budget : Nat
  band : Band
  bandReported : Bool
  presence : Bool
  presenceReported : Bool
  codes : List Nat
  state : RingState
  trip : TripLevel
  causes : LockCauses
  /-- supply demand, true for ON -/
  demand : Bool
  /-- exposure note -/
  note : Option RingState
  balance : Balance
  glare : List Glare
  flatHold : Bool
  last : Option LastUpdate
  deriving DecidableEq, Repr

/-- A sample set with its outcome (R139, R141); the cause is a channel, or 12 for TOTAL, when it is over-limit. -/
structure SampleSet where
  tag : Nat
  samples : List Nat
  codes : List Nat
  ring : RingState
  cause : Option Nat
  deriving DecidableEq, Repr

/-- DIM part of the trip record (Table 8-3). -/
structure DimPart where
  tag : Nat
  cause : Nat
  samples : List Nat
  deriving DecidableEq, Repr

/-- OFF part of the trip record (Table 8-3). -/
structure OffPart where
  tag : Nat
  cause : Nat
  deriving DecidableEq, Repr

/-- Drive Supervisor (chapter 8). -/
structure Supervisor where
  total : Nat
  dimCount : Nat
  offCount : Nat
  openLevel : Nat
  /-- ring state copy -/
  ring : RingState
  level : TripLevel
  count : Nat
  sample : Option SampleSet
  dimPart : Option DimPart
  offPart : Option OffPart
  deriving DecidableEq, Repr

/-- One head input: accepted value, candidate (true for ACTIVE) with the start time of the read that stamped it in µs,
and whether its confirmation timer runs (R151, R153). -/
structure InputLine where
  accepted : Accepted
  candidate : Option (Bool × Nat)
  timer : Bool
  deriving DecidableEq, Repr

/-- Head Input Monitor (chapter 9). -/
structure Head where
  leak : InputLine
  warm : InputLine
  hot : InputLine
  present : InputLine
  silent : Bool
  supply : SupplyLine
  /-- an acknowledged set-up write has set the line directions -/
  linesSet : Bool
  transfer : Option Transfer
  retried : Bool
  pendingRead : Bool
  pendingWrite : Option Bool
  interrupt : Bool
  /-- band last reported; none while UNKNOWN -/
  band : Option Band
  deriving DecidableEq, Repr

/-- Entry of the Fault Table (R158). -/
structure FaultEntry where
  set : Bool
  severity : Severity
  masked : Bool
  tag : Option Nat
  count : Nat
  deriving DecidableEq, Repr

/-- Fault Table (R158, R162), entries in the order of Table 9-2. -/
structure FaultTable where
  entries : List FaultEntry
  lineEnabled : Bool
  /-- FAULT output -/
  line : Bool
  deriving DecidableEq, Repr

/-- A record of the stored image (Table 11-1). -/
structure StoredRecord where
  kind : Nat
  payload : List Byte
  deriving DecidableEq, Repr

/-- The load in progress (R177, R178): reading the image, or applying its records, with the records left, whether the
next one stands directly after the header, and how many were skipped. -/
inductive LoadState where
  | idle
  | reading
  | applying (rest : List StoredRecord) (first : Bool) (skipped : Nat)
  deriving DecidableEq, Repr

/-- The flash operation in flight (section 11.4). -/
inductive FlashOp where
  | pageWrite (page : Nat) (bytes : List Byte)
  | check (q : Req)
  deriving DecidableEq, Repr

/-- Store Loader and the serial flash (chapter 11). -/
structure Store where
  straps : Straps
  outcome : Option LoadOutcome
  load : LoadState
  op : Option FlashOp
  /-- the flash: sorted addresses; an unlisted byte reads FF hex (log 5) -/
  flash : List Host.Cell
  /-- pages left undefined by a reset in the middle of their write, with the stamp of their free bytes (log 6) -/
  undefinedPages : List (Nat × Nat)
  deriving DecidableEq, Repr

/-- The state of the part. -/
structure State where
  /-- the commands that are waiting, first in first out -/
  pending : List Instr
  mode : Mode
  lastServed : Port
  tetherQueue : List Waiting
  serviceQueue : List Waiting
  linkTether : Option MapLink
  linkService : Option MapLink
  restartPending : Option Port
  tether : Tether
  service : Service
  capture : Capture
  slots : List FrameSlot
  held : List Nat
  nextPin : Bool
  /-- the pixel places of the four slots: place 1048576·slot + 1024·y + x; an unlisted place reads 0 (log 8) -/
  frameStore : List (Nat × Nat)
  /-- the 64-bit words (place div 4) found uncorrectable and not written since (R20; log 12) -/
  badWords : List Nat
  cond : Conditioner
  cal : CalUnit
  table : ProfileTable
  viewA : ViewSlot
  viewB : ViewSlot
  warp : Warp
  ring : Ring
  sup : Supervisor
  head : Head
  faults : FaultTable
  store : Store
  /-- the model's counter for free values (log 6, log 7, log 25) -/
  freeCount : Nat
  deriving DecidableEq, Repr

/-- Why the part would stop with a fault: nothing in the spec stops it, so there is no reason. -/
inductive Fault : Type
  deriving DecidableEq, Repr

/-- Why the model gives a command no meaning. -/
inductive Refusal where
  /-- raised by an arm of exec whose command has no meaning in the model yet; safe -/
  | notModelled (mnemonic : String)
  /-- raised by a meaning whose operands do not fit the bytes or the inputs that carry them (Instr.wellFormed), so that no
  such command comes from outside; safe (log 32) -/
  | illFormed
  deriving DecidableEq, Repr

/-! ### Reset values, block by block -/

/-- A tether port after power-on with the given straps (R164, R166, R170): training begins at once. -/
def Tether.atReset (t : Straps) : Tether where
  link := .training
  offered := t.startRate
  startRate := t.startRate
  alternation := t.rateAlt
  lostLock := false
  rx := []
  errors := 0
  sending := none
  replies := []
  notices := []
  images := []

/-- The service port after a reset with the given straps (R166, R171). -/
def Service.atReset (t : Straps) : Service where
  address := 88 + t.svcAddr
  replies := []
  errors := 0
  out := []

/-- The default exposure table (R2). -/
def defaultExposures : List Nat := [10, 14, 20, 28, 40, 56, 80, 113, 160, 226, 320, 452, 640, 905, 1280, 1810]

/-- The frame record of a slot that holds none (DESIGN CHOICE, log 30). -/
def FrameRecord.none : FrameRecord := ⟨0, .off, .none⟩

/-- The Capture Controller after a reset (Table 1-3). -/
def Capture.atReset : Capture where
  mode := .stopped
  period := 665
  pendingPeriod := none
  table := defaultExposures
  pendingTable := none
  requested := 8
  index := 0
  exposure := 0
  pattern := ⟨16, 0x7FFF⟩
  pendingPattern := none
  position := 0
  tag := 0
  latestClass := none
  latestAcq := none
  skipA := 0
  skipB := 0
  frame := none
  rows := 0
  zoneSums := []

/-- A frame slot after a reset (Table 1-3). -/
def FrameSlot.atReset : FrameSlot := ⟨.free, 0, false, 0, FrameRecord.none⟩

/-- The Pixel Conditioner after a reset (Table 2-6). Entry 12 of the sector map codes NONE (R167). -/
def Conditioner.atReset : Conditioner where
  dark := List.replicate 1024 0
  gain := List.replicate 1089 1024
  changed := false
  sectorMap := List.replicate 1024 12
  zoneCounts := List.replicate 12 0
  glareLevel := 3800
  hotThreshold := 512
  tone := (List.range 4096).map (· / 16)
  acc := none
  latest := none

/-- The Calibration Map Unit after a reset (Table 3-8). -/
def CalUnit.atReset : CalUnit where
  dark := List.replicate 1024 0
  gain := List.replicate 1089 1024
  refresh := true
  shift := 3
  acq := none
  counter := 0

/-- The reset values of a descriptor (Table 4-1). -/
def Profile.atReset : Profile where
  present := false
  kind := .radial
  level := .openLevel
  width := 1
  height := 1
  ocx := 0
  ocy := 0
  startAngle := 0
  scx := 8192
  scy := 8192
  radius := 0
  table := 0
  step := 16
  fill := 0
  format := .wide12
  mark := .none

/-- The profile table after a reset (Table 4-4). -/
def ProfileTable.atReset : ProfileTable where
  limit := 32
  profiles := List.replicate 32 Profile.atReset
  radial := List.replicate 8 (List.replicate 65 0)
  holds := List.replicate 8 0

/-- A mesh buffer after a reset (R83): its nodes are not cleared. -/
def MeshBuffer.atReset (nodes : List Node) : MeshBuffer := ⟨.free, none, 0, 0, nodes⟩

/-- A view slot after a reset (R72, R83), its buffers keeping the given nodes. -/
def ViewSlot.atReset (nodes0 nodes1 : List Node) : ViewSlot :=
  ⟨0, none, .absent, MeshBuffer.atReset nodes0, MeshBuffer.atReset nodes1⟩

/-- The Warp Engine after a reset (R114). -/
def Warp.atReset : Warp := ⟨[], .idle, .nothing, 0, 0, false, false, none⟩

/-- A channel after a reset (Table 7-1). -/
def Channel.atReset : Channel := ⟨true, 0, 512, 128, 2000, .normal⟩

/-- The balance settings after a reset (Table 7-3). -/
def Balance.atReset : Balance := ⟨.manual, 2000, 1024, 40, 64, 0xFFF, false, 300, 0⟩

/-- No lock cause (R122). -/
def LockCauses.empty : LockCauses := ⟨false, false, false⟩

/-- The Ring Controller after a reset (Table 7-6). -/
def Ring.atReset : Ring where
  channels := List.replicate 12 Channel.atReset
  budget := 3072
  band := .hot
  bandReported := false
  presence := false
  presenceReported := false
  codes := List.replicate 12 0
  state := .off
  trip := .none
  causes := LockCauses.empty
  demand := false
  note := none
  balance := Balance.atReset
  glare := List.replicate 4096 .normal
  flatHold := false
  last := none

/-- The Drive Supervisor after a reset (Table 8-4). -/
def Supervisor.atReset : Supervisor := ⟨12000, 3, 10, 40, .off, .none, 0, none, none, none⟩

/-- A head input after a reset (R151). -/
def InputLine.atReset : InputLine := ⟨.unknown, none, false⟩

/-- The Head Input Monitor after a reset (R151): the set-up write of OFF is in flight and a read follows it. -/
def Head.atReset (interrupt : Bool) : Head where
  leak := InputLine.atReset
  warm := InputLine.atReset
  hot := InputLine.atReset
  present := InputLine.atReset
  silent := false
  supply := .unknown
  linesSet := false
  transfer := some (.setUp false)
  retried := false
  pendingRead := true
  pendingWrite := none
  interrupt := interrupt
  band := none

/-- The default severities, in the order of Table 9-2. -/
def defaultSeverities : List Severity :=
  [.fatal, .serious, .serious, .serious, .serious, .fatal, .fatal, .serious, .serious, .notice, .notice, .notice]

/-- The Fault Table after a reset (R158, R162). -/
def FaultTable.atReset : FaultTable :=
  ⟨defaultSeverities.map fun v => ⟨false, v, false, none, 0⟩, true, false⟩

/-- The straps of State.reset (DESIGN CHOICE, log 4). -/
def Straps.atReset : Straps := ⟨0, false, .full, true⟩

/-- The Store Loader after a reset that reads the image (R177, R180). -/
def Store.atReset (t : Straps) : Store := ⟨t, none, .reading, none, [], []⟩

/-- The machine right after reset: every block in its reset state, the part in BOOT, the image being read. -/
def State.reset : State where
  pending := []
  mode := .boot
  lastServed := .service
  tetherQueue := []
  serviceQueue := []
  linkTether := none
  linkService := none
  restartPending := none
  tether := Tether.atReset Straps.atReset
  service := Service.atReset Straps.atReset
  capture := Capture.atReset
  slots := List.replicate 4 FrameSlot.atReset
  held := []
  nextPin := false
  frameStore := []
  badWords := []
  cond := Conditioner.atReset
  cal := CalUnit.atReset
  table := ProfileTable.atReset
  viewA := ViewSlot.atReset [] []
  viewB := ViewSlot.atReset [] []
  warp := Warp.atReset
  ring := Ring.atReset
  sup := Supervisor.atReset
  head := Head.atReset false
  faults := FaultTable.atReset
  store := Store.atReset Straps.atReset
  freeCount := 0

end Sys2Proof.Machine
end

