-- ==== Sys2Proof/WellFormed.lean ====
section
/-! DEFINITION. When a command is one that the world outside can send: every field of a request fits the bytes that
carry it (R167) and every list has the number of entries its record has; what the sensor and the current senses deliver
lies in their ranges (R23, R139). A field inside its bytes but outside its values is well formed: its owner answers it. -/

namespace Sys2Proof

/-- The value fits a field of one byte (R167). -/
def fitsByte (n : Nat) : Bool := decide (n < 256)

/-- The value fits a field of two bytes (R167). -/
def fitsHalf (n : Nat) : Bool := decide (n < 65536)

/-- The value fits a signed field of two bytes in two's complement (R167). -/
def fitsSigned (n : Int) : Bool := decide (-32768 ≤ n) && decide (n ≤ 32767)

/-- A list of exactly `n` one-byte entries. -/
def byteList (n : Nat) (l : List Nat) : Bool := l.length == n && l.all fitsByte

/-- A list of exactly `n` two-byte entries. -/
def halfList (n : Nat) (l : List Nat) : Bool := l.length == n && l.all fitsHalf

def Req.wellFormed (q : Req) : Bool := fitsByte q.tag

def Straps.wellFormed (t : Straps) : Bool := decide (t.svcAddr < 8)

def PatternArg.wellFormed (p : PatternArg) : Bool := fitsByte p.length && fitsHalf p.lit

def FrameTarget.wellFormed : FrameTarget → Bool
  | .next => true
  | .tag t => fitsHalf t
  | .other c => decide (2 ≤ c) && fitsByte c

def RegionArg.wellFormed (r : RegionArg) : Bool :=
  fitsByte r.map && fitsByte r.x0 && fitsByte r.y0 && fitsByte r.w && fitsByte r.h

def ProfileArg.wellFormed (d : ProfileArg) : Bool :=
  fitsByte d.present && fitsByte d.kind && fitsByte d.level && fitsByte d.width && fitsByte d.height &&
  fitsSigned d.ocx && fitsSigned d.ocy && fitsHalf d.startAngle && fitsSigned d.scx && fitsSigned d.scy &&
  fitsHalf d.radius && fitsByte d.table && fitsByte d.step && fitsHalf d.fill && fitsByte d.format && fitsByte d.mark

def ChannelArg.wellFormed (c : ChannelArg) : Bool :=
  fitsByte c.enabled && fitsHalf c.dmin && fitsHalf c.dmax && fitsHalf c.start && fitsHalf c.limit

def BalanceArg.wellFormed (b : BalanceArg) : Bool :=
  fitsByte b.loopMode && fitsHalf b.target && fitsHalf b.kp && fitsHalf b.slew && fitsHalf b.deadband &&
  fitsHalf b.mask && fitsByte b.autoExposure && fitsHalf b.margin && fitsHalf b.forced

def PolicyArg.wellFormed (p : PolicyArg) : Bool := fitsByte p.severity && fitsByte p.mask

/-- The kind codes of the requests of Table 10-2. -/
def requestKinds : List Nat :=
  [0x01, 0x02, 0x03, 0x04, 0x10, 0x11, 0x12, 0x13, 0x14, 0x18, 0x19, 0x1A, 0x1B, 0x20, 0x21, 0x22, 0x23, 0x24, 0x25,
   0x26, 0x27, 0x30, 0x31, 0x32, 0x33, 0x34, 0x35, 0x36, 0x38, 0x40, 0x41, 0x42, 0x43, 0x44, 0x45, 0x48, 0x49, 0x50,
   0x51, 0x52, 0x53, 0x58, 0x59, 0x5A]

/-- Well-formed commands. -/
def Instr.wellFormed : Instr → Bool
  | .powerOn t => t.wellFormed
  | .externalReset t => t.wellFormed
  | .recordReceived _ addr _ => decide (addr < 128)
  | .serviceRead addr _ => decide (addr < 128)
  | .unknownKind q kind => q.wellFormed && fitsByte kind && !requestKinds.contains kind
  | .queryStatus q => q.wellFormed
  | .enterSetup q => q.wellFormed
  | .enterRun q => q.wellFormed
  | .restart q => q.wellFormed
  | .restartReplyTimeout => true
  | .setTiming q p pat i =>
    q.wellFormed && p.all fitsHalf && pat.all PatternArg.wellFormed && i.all fitsByte
  | .writeExposureTable q e => q.wellFormed && halfList 16 e
  | .pinFrame q t => q.wellFormed && t.wellFormed
  | .releaseFrame q t => q.wellFormed && t.wellFormed
  | .queryFrames q => q.wellFormed
  | .writeSectorMap q e => q.wellFormed && byteList 1024 e
  | .writeStatisticsSettings q g h => q.wellFormed && fitsHalf g && fitsHalf h
  | .writeToneSegment q n e => q.wellFormed && fitsByte n && byteList 256 e
  | .queryStatistics q => q.wellFormed
  | .readMapRegion q r => q.wellFormed && r.wellFormed
  | .readMapRegionLinked q r => q.wellFormed && r.wellFormed
  | .writeMapRegion q r e => q.wellFormed && r.wellFormed && halfList (r.w * r.h) e
  | .writeMapRegionConditional q r e => q.wellFormed && r.wellFormed && halfList (r.w * r.h) e
  | .setDarkRefresh q e w => q.wellFormed && fitsByte e && fitsByte w
  | .startDarkAcquisition q n => q.wellFormed && fitsByte n
  | .startFlatFieldAcquisition q n t => q.wellFormed && fitsByte n && fitsHalf t
  | .abortAcquisition q => q.wellFormed
  | .writeProfile q n d => q.wellFormed && fitsByte n && d.wellFormed
  | .readProfile q n => q.wellFormed && fitsByte n
  | .setProfileLimit q n => q.wellFormed && fitsByte n
  | .writeRadialTable q n e => q.wellFormed && fitsByte n && halfList 65 e
  | .readRadialTable q n => q.wellFormed && fitsByte n
  | .bindView q v n => q.wellFormed && fitsByte v && fitsByte n
  | .queryViews q => q.wellFormed
  | .reviewFrame q t v => q.wellFormed && fitsHalf t && fitsByte v
  | .writeChannelTable q k c => q.wellFormed && fitsByte k && c.wellFormed
  | .writeRingBudget q b => q.wellFormed && fitsHalf b
  | .writeBalanceSettings q b => q.wellFormed && b.wellFormed
  | .writeGlareTable q n e => q.wellFormed && fitsByte n && byteList 256 e
  | .setDrive q c => q.wellFormed && halfList 12 c
  | .queryBalance q => q.wellFormed
  | .writeSupervisionLimits q t d o l => q.wellFormed && fitsHalf t && fitsByte d && fitsByte o && fitsHalf l
  | .queryTrip q => q.wellFormed
  | .queryFaults q => q.wellFormed
  | .clearFaults q k => q.wellFormed && decide (k.length ≤ 12) && k.all fitsByte
  | .setFaultPolicy q p e => q.wellFormed && p.length == 12 && p.all PolicyArg.wellFormed && fitsByte e
  | .queryHead q => q.wellFormed
  | .storeWritePage q p b => q.wellFormed && fitsHalf p && b.length == 256
  | .storeReadPage q p => q.wellFormed && fitsHalf p
  | .storeCheck q => q.wellFormed
  | .pageWriteEnd => true
  | .storeCheckEnd => true
  | .storeImageRead => true
  | .storedRecordApply => true
  | .frameStart => true
  | .exposureEnd l => l.length == 12 && l.all (fun n => decide (n ≤ 4095))
  | .sensorRow l => l.length == 1024 && l.all (fun n => decide (n ≤ 4095))
  | .readoutCompletionLit => true
  | .readoutCompletionDark => true
  | .sensorTimeout => true
  | .warpTileComplete l => l.all (fun n => decide (n < 1048576))
  | .imageRecordPlace => true
  | .buildCompletion _ => true
  | .recordSent => true
  | .linkTrainingSuccess => true
  | .linkTrainingFailure => true
  | .retrainTimerExpiry => true
  | .linkLoss => true
  | .expanderInterrupt _ => true
  | .pollTimerExpiry => true
  | .confirmationTimerExpiry _ => true
  | .inputReadEnd _ _ _ => true
  | .supplyWriteEnd _ => true
  | .setUpWriteEnd _ => true

end Sys2Proof
end

