-- ==== Sys2Proof/Machine/Operands.lean ====
section
/-! DEFINITION. Record layouts: how fields are packed and read (R167, Table 10-1), the codes of enumerations, the check
values (R166, R177), the framing of records, and the reading of a request record into its command. -/

namespace Sys2Proof

/-- The code of a port (chapter 10). -/
def Port.code : Port → Nat
  | .tether => 0 | .service => 1

/-- The code of a rate (Table 11-1). -/
def Rate.code : Rate → Nat
  | .full => 0 | .reduced => 1

/-- The rate of a code. -/
def Rate.ofCode : Nat → Option Rate
  | 0 => some .full | 1 => some .reduced | _ => none

/-- The code of a view slot (R167). -/
def View.code : View → Nat
  | .a => 0 | .b => 1

/-- The view slot of a code. -/
def View.ofCode : Nat → Option View
  | 0 => some .a | 1 => some .b | _ => none

/-- The other port. -/
def Port.other : Port → Port
  | .tether => .service
  | .service => .tether

end Sys2Proof

namespace Sys2Proof.Machine

/-! ### Packing of fields (R167) -/

/-- A field of one byte. -/
def u8 (n : Nat) : List Byte := [BitVec.ofNat 8 n]

/-- A field of two bytes, most significant byte first (R166). -/
def u16 (n : Nat) : List Byte := [BitVec.ofNat 8 (n / 256), BitVec.ofNat 8 n]

/-- A field of four bytes, most significant byte first. -/
def u32 (n : Nat) : List Byte :=
  [BitVec.ofNat 8 (n / 16777216), BitVec.ofNat 8 (n / 65536), BitVec.ofNat 8 (n / 256), BitVec.ofNat 8 n]

/-- A signed field of one byte, two's complement. -/
def i8 (n : Int) : List Byte := u8 (n % 256).toNat

/-- A signed field of two bytes, two's complement. -/
def i16 (n : Int) : List Byte := u16 (n % 65536).toNat

/-- A two-valued setting: 00 hex for no, off, disabled and unmasked, 01 hex for yes, on, enabled and masked. -/
def flag (b : Bool) : List Byte := u8 (if b then 1 else 0)

/-- A present-or-absent part: a marker byte and the part's fields when present. -/
def optionalPart {α : Type} (pack : α → List Byte) : Option α → List Byte
  | none => flag false
  | some a => flag true ++ pack a

/-- A list: its entries in turn. -/
def entries {α : Type} (pack : α → List Byte) (l : List α) : List Byte := l.flatMap pack

/-- A set of sectors or any numbered set as a number with bit k set for each member k below `n`. -/
def maskOf (n : Nat) (p : Nat → Bool) : Nat := ((List.range n).map fun k => if p k then 2 ^ k else 0).sum

/-! ### Codes of enumerations: the place in the first list of values (R167) -/

def Mode.code : Mode → Nat
  | .boot => 0 | .setup => 1 | .run => 2
def LinkState.code : LinkState → Nat
  | .down => 0 | .training => 1 | .up => 2
def CaptureMode.code : CaptureMode → Nat
  | .stopped => 0 | .exposing => 1 | .readout => 2 | .waiting => 3
/-- The class of a frame in Query Frames (R19): lit or dark, in that order (R10 (2), R167); the mark PATTERN or ACQUISITION of a dark
frame is no part of its class. -/
def FrameClass.code : FrameClass → Nat
  | .lit => 0 | .darkPattern => 1 | .darkAcquisition => 1
def SlotState.code : SlotState → Nat
  | .free => 0 | .filling => 1 | .held => 2
def AcqKind.code : AcqKind → Nat
  | .dark => 0 | .flat => 1
def AcqOutcome.code : AcqOutcome → Nat
  | .complete => 0 | .aborted => 1 | .failed => 2
def MapName.code : MapName → Nat
  | .dark => 0 | .gain => 1
def RingState.code : RingState → Nat
  | .off => 0 | .lit => 1 | .dim => 2 | .lockedOff => 3 | .absent => 4
def TripLevel.code : TripLevel → Nat
  | .none => 0 | .one => 1 | .two => 2
def ChannelState.code : ChannelState → Nat
  | .normal => 0 | .opened => 1 | .disabled => 2
def Band.code : Band → Nat
  | .normal => 0 | .warm => 1 | .hot => 2
def LoopMode.code : LoopMode → Nat
  | .loop => 0 | .manual => 1
def Glare.code : Glare → Nat
  | .normal => 0 | .hold => 1 | .dimHot => 2 | .shorten => 3
def Format.code : Format → Nat
  | .wide12 => 0 | .tone8 => 1
def ProfileKind.code : ProfileKind → Nat
  | .radial => 0 | .unroll => 1
def Privilege.code : Privilege → Nat
  | .openLevel => 0 | .protectedLevel => 1
def Mark.code : Mark → Nat
  | .none => 0 | .aActive => 1 | .aPending => 2 | .bActive => 3 | .bPending => 4
def BufferState.code : BufferState → Nat
  | .free => 0 | .building => 1 | .ready => 2 | .active => 3 | .retiring => 4
def BuildState.code : BuildState → Nat
  | .waiting => 0 | .building => 1 | .ready => 2
def Purpose.code : Purpose → Nat
  | .live => 0 | .review => 1
def Severity.code : Severity → Nat
  | .notice => 0 | .serious => 1 | .fatal => 2
def FaultKind.code : FaultKind → Nat
  | .housingLeak => 0 | .headHot => 1 | .ringAbsent => 2 | .channelOpen => 3 | .ringDimTrip => 4 | .ringOffTrip => 5
  | .expanderSilent => 6 | .sensorTimeout => 7 | .frameStoreEcc => 8 | .storeImageBad => 9
  | .storeImageIrregular => 10 | .linkLost => 11
def Accepted.code : Accepted → Nat
  | .unknown => 0 | .active => 1 | .inactive => 2
def SupplyLine.code : SupplyLine → Nat
  | .unknown => 0 | .on => 1 | .off => 2
def Transfer.code : Transfer → Nat
  | .read => 0 | .supplyWrite _ => 1 | .setUp _ => 2
def LoadOutcome.code : LoadOutcome → Nat
  | .loaded => 0 | .irregular => 1 | .defaults => 2

/-- The result codes of Table 10-3. -/
inductive Code where
  | ok | accepted | queueFull | malformed | unknownKind | refusedMode | refusedPrivilege | outOfRange | badSelector
  | notPresent | wrongKind | profileBusy | tableBusy | nullView | viewNotReady | linkBroken | opInProgress | noOperation
  | pinLimit | noFrame | headCondition
  deriving DecidableEq, Repr

/-- The byte of a result code (Table 10-3). -/
def Code.value : Code → Nat
  | .ok => 0x00 | .accepted => 0x01 | .queueFull => 0x02 | .malformed => 0x03 | .unknownKind => 0x04
  | .refusedMode => 0x05 | .refusedPrivilege => 0x06 | .outOfRange => 0x07 | .badSelector => 0x08
  | .notPresent => 0x09 | .wrongKind => 0x0A | .profileBusy => 0x0B | .tableBusy => 0x0C | .nullView => 0x0D
  | .viewNotReady => 0x0E | .linkBroken => 0x0F | .opInProgress => 0x10 | .noOperation => 0x11
  | .pinLimit => 0x12 | .noFrame => 0x13 | .headCondition => 0x14

/-! ### Codes read back: none for a code outside the values of the field -/

def MapName.ofCode : Nat → Option MapName
  | 0 => some .dark | 1 => some .gain | _ => none
def boolOfCode : Nat → Option Bool
  | 0 => some false | 1 => some true | _ => none
def ProfileKind.ofCode : Nat → Option ProfileKind
  | 0 => some .radial | 1 => some .unroll | _ => none
def Privilege.ofCode : Nat → Option Privilege
  | 0 => some .openLevel | 1 => some .protectedLevel | _ => none
def Format.ofCode : Nat → Option Format
  | 0 => some .wide12 | 1 => some .tone8 | _ => none
def LoopMode.ofCode : Nat → Option LoopMode
  | 0 => some .loop | 1 => some .manual | _ => none
def Glare.ofCode : Nat → Option Glare
  | 0 => some .normal | 1 => some .hold | 2 => some .dimHot | 3 => some .shorten | _ => none
def Severity.ofCode : Nat → Option Severity
  | 0 => some .notice | 1 => some .serious | 2 => some .fatal | _ => none
def FaultKind.ofCode : Nat → Option FaultKind
  | 0 => some .housingLeak | 1 => some .headHot | 2 => some .ringAbsent | 3 => some .channelOpen
  | 4 => some .ringDimTrip | 5 => some .ringOffTrip | 6 => some .expanderSilent | 7 => some .sensorTimeout
  | 8 => some .frameStoreEcc | 9 => some .storeImageBad | 10 => some .storeImageIrregular | 11 => some .linkLost
  | _ => none

/-! ### Check values -/

/-- One bit of the CRC-16 of R166, generator x^16 + x^12 + x^5 + 1. -/
def crc16Bit (c : BitVec 16) : BitVec 16 := if c.msb then (c <<< 1) ^^^ 0x1021#16 else c <<< 1

/-- One byte of the CRC-16, most significant bit first. -/
def crc16Byte (c : BitVec 16) (b : Byte) : BitVec 16 := crc16Bit^[8] (c ^^^ (b.zeroExtend 16 <<< 8))

/-- The CRC-16 of R166: all bits set at the start, no inversion. -/
def crc16 (bytes : List Byte) : Nat := (bytes.foldl crc16Byte 0xFFFF#16).toNat

/-- One bit of the CRC-32 of R177. -/
def crc32Bit (c : BitVec 32) : BitVec 32 := if c.msb then (c <<< 1) ^^^ 0x04C11DB7#32 else c <<< 1

/-- One byte of the CRC-32, most significant bit first. -/
def crc32Byte (c : BitVec 32) (b : Byte) : BitVec 32 := crc32Bit^[8] (c ^^^ (b.zeroExtend 32 <<< 24))

/-- The CRC-32 of R177: all bits set at the start, no inversion. -/
def crc32 (bytes : List Byte) : Nat := (bytes.foldl crc32Byte 0xFFFFFFFF#32).toNat

/-! ### Framing (R166) -/

/-- The start byte A5 hex. -/
def startByte : Byte := 0xA5#8

/-- The bytes the check value covers: length, kind, tag and payload. -/
def Record.body (r : Record) : List Byte := u16 r.payload.length ++ u8 r.kind ++ u8 r.tag ++ r.payload

/-- A record as it stands on the wire. -/
def Record.bytes (r : Record) : List Byte := startByte :: r.body ++ u16 (crc16 r.body)

/-- The EMPTY record of a service read (Table 10-1). -/
def Record.empty : Record := ⟨0, 0, []⟩

/-- The result of looking at the bytes from a start byte on. -/
inductive FrameRead where
  /-- more bytes are needed -/
  | incomplete
  /-- the length is above 2048 or the check value does not match -/
  | bad
  | good (r : Record) (rest : List Byte)
  deriving DecidableEq, Repr

/-- A number from bytes, most significant first. -/
def bytesToNat (l : List Byte) : Nat := l.foldl (fun n b => n * 256 + b.toNat) 0

/-- Read the record whose bytes after its start byte begin `l` (R166). -/
def readFrame (l : List Byte) : FrameRead :=
  if l.length < 4 then .incomplete
  else if bytesToNat (l.take 2) > 2048 then .bad
  else if l.length < bytesToNat (l.take 2) + 6 then .incomplete
  else if crc16 (l.take (bytesToNat (l.take 2) + 4)) =
      bytesToNat ((l.drop (bytesToNat (l.take 2) + 4)).take 2) then
    .good ⟨bytesToNat ((l.drop 2).take 1), bytesToNat ((l.drop 3).take 1), (l.drop 4).take (bytesToNat (l.take 2))⟩
      (l.drop (bytesToNat (l.take 2) + 6))
  else .bad

/-- The records and framing errors (none) found in received bytes, and the bytes of a record that is not yet whole. After
an error the search goes on from the byte that follows the discarded start byte (R166). -/
def scanBytes : Nat → List Byte → List (Option Record) × List Byte
  | 0, l => ([], l)
  | n + 1, l =>
    match l.dropWhile (· != startByte) with
    | [] => ([], [])
    | b :: rest =>
      match readFrame rest with
      | .incomplete => ([], b :: rest)
      | .bad => (none :: (scanBytes n rest).1, (scanBytes n rest).2)
      | .good r rest' => (some r :: (scanBytes n rest').1, (scanBytes n rest').2)

/-! ### Reading the fields of a payload -/

/-- Read one byte. -/
def read8 : List Byte → Option (Nat × List Byte)
  | b :: l => some (b.toNat, l)
  | [] => none

/-- Read two bytes, most significant first. -/
def read16 : List Byte → Option (Nat × List Byte)
  | a :: b :: l => some (a.toNat * 256 + b.toNat, l)
  | _ => none

/-- Read a signed field of two bytes. -/
def readSigned (l : List Byte) : Option (Int × List Byte) :=
  (read16 l).map fun (n, l') => (if n < 32768 then (n : Int) else (n : Int) - 65536, l')

/-- Read `n` fields in turn. -/
def readMany {α : Type} (f : List Byte → Option (α × List Byte)) : Nat → List Byte → Option (List α × List Byte)
  | 0, l => some ([], l)
  | n + 1, l =>
    match f l with
    | none => none
    | some (a, l') => (readMany f n l').map fun (as, l'') => (a :: as, l'')

/-- Read a present-or-absent part. A marker other than 00 and 01 hex gives no length, so the payload is MALFORMED
(log 19). -/
def readPart {α : Type} (f : List Byte → Option (α × List Byte)) (l : List Byte) : Option (Option α × List Byte) :=
  match read8 l with
  | some (0, l') => some (none, l')
  | some (1, l') => (f l').map fun (a, l'') => (some a, l'')
  | _ => none

def readRegion (l : List Byte) : Option (RegionArg × List Byte) := do
  let (m, l) ← read8 l
  let (x0, l) ← read8 l
  let (y0, l) ← read8 l
  let (w, l) ← read8 l
  let (h, l) ← read8 l
  return (⟨m, x0, y0, w, h⟩, l)

def readPattern (l : List Byte) : Option (PatternArg × List Byte) := do
  let (n, l) ← read8 l
  let (b, l) ← read16 l
  return (⟨n, b⟩, l)

/-- NEXT has no further field, TAG has its tag; another form code is read with no further field (log 19). -/
def readTarget (l : List Byte) : Option (FrameTarget × List Byte) := do
  let (c, l) ← read8 l
  match c with
  | 0 => return (.next, l)
  | 1 => do
    let (t, l) ← read16 l
    return (.tag t, l)
  | c => return (.other c, l)

def readProfileArg (l : List Byte) : Option (ProfileArg × List Byte) := do
  let (present, l) ← read8 l
  let (kind, l) ← read8 l
  let (level, l) ← read8 l
  let (width, l) ← read8 l
  let (height, l) ← read8 l
  let (ocx, l) ← readSigned l
  let (ocy, l) ← readSigned l
  let (startAngle, l) ← read16 l
  let (scx, l) ← readSigned l
  let (scy, l) ← readSigned l
  let (radius, l) ← read16 l
  let (table, l) ← read8 l
  let (step, l) ← read8 l
  let (fill, l) ← read16 l
  let (format, l) ← read8 l
  let (mark, l) ← read8 l
  return (⟨present, kind, level, width, height, ocx, ocy, startAngle, scx, scy, radius, table, step, fill, format,
    mark⟩, l)

def readChannelArg (l : List Byte) : Option (ChannelArg × List Byte) := do
  let (e, l) ← read8 l
  let (dmin, l) ← read16 l
  let (dmax, l) ← read16 l
  let (start, l) ← read16 l
  let (limit, l) ← read16 l
  return (⟨e, dmin, dmax, start, limit⟩, l)

def readBalanceArg (l : List Byte) : Option (BalanceArg × List Byte) := do
  let (m, l) ← read8 l
  let (t, l) ← read16 l
  let (kp, l) ← read16 l
  let (s, l) ← read16 l
  let (d, l) ← read16 l
  let (mask, l) ← read16 l
  let (ae, l) ← read8 l
  let (margin, l) ← read16 l
  let (forced, l) ← read16 l
  return (⟨m, t, kp, s, d, mask, ae, margin, forced⟩, l)

def readPolicyArg (l : List Byte) : Option (PolicyArg × List Byte) := do
  let (v, l) ← read8 l
  let (m, l) ← read8 l
  return (⟨v, m⟩, l)

/-- The fields of a request of the given kind, and the bytes left over (Table 10-2, R167). -/
def readFields (q : Req) (kind : Nat) (l : List Byte) : Option (Instr × List Byte) :=
  match kind with
  | 0x01 => some (.queryStatus q, l)
  | 0x02 => some (.enterSetup q, l)
  | 0x03 => some (.enterRun q, l)
  | 0x04 => some (.restart q, l)
  | 0x10 => do
    let (p, l) ← readPart read16 l
    let (pat, l) ← readPart readPattern l
    let (i, l) ← readPart read8 l
    return (.setTiming q p pat i, l)
  | 0x11 => (readMany read16 16 l).map fun (e, l) => (.writeExposureTable q e, l)
  | 0x12 => (readTarget l).map fun (t, l) => (.pinFrame q t, l)
  | 0x13 => (readTarget l).map fun (t, l) => (.releaseFrame q t, l)
  | 0x14 => some (.queryFrames q, l)
  | 0x18 => (readMany read8 1024 l).map fun (e, l) => (.writeSectorMap q e, l)
  | 0x19 => do
    let (g, l) ← read16 l
    let (h, l) ← read16 l
    return (.writeStatisticsSettings q g h, l)
  | 0x1A => do
    let (n, l) ← read8 l
    let (e, l) ← readMany read8 256 l
    return (.writeToneSegment q n e, l)
  | 0x1B => some (.queryStatistics q, l)
  | 0x20 => (readRegion l).map fun (r, l) => (.readMapRegion q r, l)
  | 0x21 => (readRegion l).map fun (r, l) => (.readMapRegionLinked q r, l)
  | 0x22 => do
    let (r, l) ← readRegion l
    let (e, l) ← readMany read16 (r.w * r.h) l
    return (.writeMapRegion q r e, l)
  | 0x23 => do
    let (r, l) ← readRegion l
    let (e, l) ← readMany read16 (r.w * r.h) l
    return (.writeMapRegionConditional q r e, l)
  | 0x24 => do
    let (e, l) ← read8 l
    let (w, l) ← read8 l
    return (.setDarkRefresh q e w, l)
  | 0x25 => (read8 l).map fun (n, l) => (.startDarkAcquisition q n, l)
  | 0x26 => do
    let (n, l) ← read8 l
    let (t, l) ← read16 l
    return (.startFlatFieldAcquisition q n t, l)
  | 0x27 => some (.abortAcquisition q, l)
  | 0x30 => do
    let (n, l) ← read8 l
    let (d, l) ← readProfileArg l
    return (.writeProfile q n d, l)
  | 0x31 => (read8 l).map fun (n, l) => (.readProfile q n, l)
  | 0x32 => do
    let (n, l) ← read8 l
    let (e, l) ← readMany read16 65 l
    return (.writeRadialTable q n e, l)
  | 0x33 => (read8 l).map fun (n, l) => (.readRadialTable q n, l)
  | 0x34 => (read8 l).map fun (n, l) => (.setProfileLimit q n, l)
  | 0x35 => do
    let (v, l) ← read8 l
    let (n, l) ← read8 l
    return (.bindView q v n, l)
  | 0x36 => some (.queryViews q, l)
  | 0x38 => do
    let (t, l) ← read16 l
    let (v, l) ← read8 l
    return (.reviewFrame q t v, l)
  | 0x40 => do
    let (k, l) ← read8 l
    let (c, l) ← readChannelArg l
    return (.writeChannelTable q k c, l)
  | 0x41 => (read16 l).map fun (b, l) => (.writeRingBudget q b, l)
  | 0x42 => (readBalanceArg l).map fun (b, l) => (.writeBalanceSettings q b, l)
  | 0x43 => do
    let (n, l) ← read8 l
    let (e, l) ← readMany read8 256 l
    return (.writeGlareTable q n e, l)
  | 0x44 => (readMany read16 12 l).map fun (c, l) => (.setDrive q c, l)
  | 0x45 => some (.queryBalance q, l)
  | 0x48 => do
    let (t, l) ← read16 l
    let (d, l) ← read8 l
    let (o, l) ← read8 l
    let (n, l) ← read16 l
    return (.writeSupervisionLimits q t d o n, l)
  | 0x49 => some (.queryTrip q, l)
  | 0x50 => some (.queryFaults q, l)
  | 0x51 => if l.length ≤ 12 then some (.clearFaults q (l.map BitVec.toNat), []) else none
  | 0x52 => do
    let (p, l) ← readMany readPolicyArg 12 l
    let (e, l) ← read8 l
    return (.setFaultPolicy q p e, l)
  | 0x53 => some (.queryHead q, l)
  | 0x58 => do
    let (p, l) ← read16 l
    return (.storeWritePage q p (l.take 256), if 256 ≤ l.length then l.drop 256 else [0])
  | 0x59 => (read16 l).map fun (p, l) => (.storeReadPage q p, l)
  | 0x5A => some (.storeCheck q, l)
  | _ => none

/-- The command of a request record, none when its payload has not the length its kind and fields require (R169 (2)). -/
def readRequest (q : Req) (kind : Nat) (payload : List Byte) : Option Instr :=
  match readFields q kind payload with
  | some (i, []) => some i
  | _ => none

/-- A record as the Dispatcher will take it from the port's queue (R169 (1) and (2)). -/
def readRecord (p : Port) (r : Record) : Waiting :=
  if requestKinds.contains r.kind then
    match readRequest ⟨p, r.tag⟩ r.kind r.payload with
    | some i => .request i
    | none => .malformed r.kind r.tag
  else .request (.unknownKind ⟨p, r.tag⟩ r.kind)

/-- The reply kind of a record kind: the request kind plus 80 hex, or FF hex for a kind outside Table 10-2 (R167). -/
def replyKind (kind : Nat) : Nat := if requestKinds.contains kind then kind + 0x80 else 0xFF

/-- The record kind of a request command (Table 10-2), the kind it carries for an unknown one; none for an event. -/
def requestKind : Instr → Option Nat
  | .unknownKind _ kind => some kind
  | .queryStatus _ => some 0x01
  | .enterSetup _ => some 0x02
  | .enterRun _ => some 0x03
  | .restart _ => some 0x04
  | .setTiming _ _ _ _ => some 0x10
  | .writeExposureTable _ _ => some 0x11
  | .pinFrame _ _ => some 0x12
  | .releaseFrame _ _ => some 0x13
  | .queryFrames _ => some 0x14
  | .writeSectorMap _ _ => some 0x18
  | .writeStatisticsSettings _ _ _ => some 0x19
  | .writeToneSegment _ _ _ => some 0x1A
  | .queryStatistics _ => some 0x1B
  | .readMapRegion _ _ => some 0x20
  | .readMapRegionLinked _ _ => some 0x21
  | .writeMapRegion _ _ _ => some 0x22
  | .writeMapRegionConditional _ _ _ => some 0x23
  | .setDarkRefresh _ _ _ => some 0x24
  | .startDarkAcquisition _ _ => some 0x25
  | .startFlatFieldAcquisition _ _ _ => some 0x26
  | .abortAcquisition _ => some 0x27
  | .writeProfile _ _ _ => some 0x30
  | .readProfile _ _ => some 0x31
  | .writeRadialTable _ _ _ => some 0x32
  | .readRadialTable _ _ => some 0x33
  | .setProfileLimit _ _ => some 0x34
  | .bindView _ _ _ => some 0x35
  | .queryViews _ => some 0x36
  | .reviewFrame _ _ _ => some 0x38
  | .writeChannelTable _ _ _ => some 0x40
  | .writeRingBudget _ _ => some 0x41
  | .writeBalanceSettings _ _ => some 0x42
  | .writeGlareTable _ _ _ => some 0x43
  | .setDrive _ _ => some 0x44
  | .queryBalance _ => some 0x45
  | .writeSupervisionLimits _ _ _ _ _ => some 0x48
  | .queryTrip _ => some 0x49
  | .queryFaults _ => some 0x50
  | .clearFaults _ _ => some 0x51
  | .setFaultPolicy _ _ _ => some 0x52
  | .queryHead _ => some 0x53
  | .storeWritePage _ _ _ => some 0x58
  | .storeReadPage _ _ => some 0x59
  | .storeCheck _ => some 0x5A
  | _ => none

/-- The reply kind of a request command. -/
def replyKindOf (i : Instr) : Nat := replyKind ((requestKind i).getD 0)

end Sys2Proof.Machine
end

