-- ==== Sys2Proof/Machine/Ops.lean ====
section
/-! DEFINITION. The named operations every block uses: addressed stores, the port queues and the transmitter, notices, the
Dispatcher's taking of a request, frame slots, the end of an acquisition, the end of a load, and the reset. -/

namespace Sys2Proof.Machine

/-! ### Addressed stores: sorted lists of address and value, no entry equal to what an unlisted address reads as -/

/-- The value at an address; `d` is what an unlisted address reads as. -/
def Memory.read {α : Type} (d : α) (m : List (Nat × α)) (a : Nat) : α := (m.lookup a).getD d

/-- Store values at consecutive addresses from `base` on. -/
def Memory.writeBlock {α : Type} [DecidableEq α] (d : α) (m : List (Nat × α)) (base : Nat) (vals : List α) :
    List (Nat × α) :=
  m.filter (fun e => decide (e.1 < base)) ++
  ((vals.zipIdx base).map fun p => (p.2, p.1)).filter (fun e => decide (e.2 ≠ d)) ++
  m.filter (fun e => decide (base + vals.length ≤ e.1))

/-- The canonical form: addresses strictly rising, no entry equal to what an unlisted address reads as. -/
abbrev Memory.Wf {α : Type} (d : α) (m : List (Nat × α)) : Prop :=
  m.Pairwise (fun x y => x.1 < y.1) ∧ ∀ e ∈ m, e.2 ≠ d

/-- What an unlisted byte of the flash reads as: a blank flash reads as ones (R177; log 5). -/
def blankByte : Byte := 0xFF#8

/-- The place of pixel (x, y) of a frame slot in the frame store (section 1.3). -/
def pixelPlace (slot x y : Nat) : Nat := 1048576 * slot + 1024 * y + x

/-- The conditioned pixel at (x, y) of a frame slot. -/
def State.pixel (s : State) (slot x y : Nat) : Nat := Memory.read 0 s.frameStore (pixelPlace slot x y)

/-! ### View slots and buffers by name -/

/-- The view slot named by `v`. -/
def State.view (s : State) : View → ViewSlot
  | .a => s.viewA
  | .b => s.viewB

/-- Replace a view slot. -/
def State.setView (s : State) (v : View) (x : ViewSlot) : State :=
  match v with
  | .a => { s with viewA := x }
  | .b => { s with viewB := x }

/-- Buffer 0 or 1 of a view slot. -/
def ViewSlot.buffer (x : ViewSlot) (b : Nat) : MeshBuffer := if b = 0 then x.buffer0 else x.buffer1

/-- Replace buffer 0 or 1 of a view slot. -/
def ViewSlot.setBuffer (x : ViewSlot) (b : Nat) (m : MeshBuffer) : ViewSlot :=
  if b = 0 then { x with buffer0 := m } else { x with buffer1 := m }

/-- Skip count of a view (R15). -/
def State.skip (s : State) : View → Nat
  | .a => s.capture.skipA
  | .b => s.capture.skipB

/-- Set the skip count of a view. -/
def State.setSkip (s : State) (v : View) (n : Nat) : State :=
  match v with
  | .a => { s with capture.skipA := n }
  | .b => { s with capture.skipB := n }

/-- Count a frame as skipped for a view, staying at 65535 (R15). -/
def countSkip (v : View) (s : State) : State := s.setSkip v (min 65535 (s.skip v + 1))

/-! ### The tether transmitter (R170) -/

/-- When the link is UP and the transmitter is free, take the oldest record of the first queue that holds one: replies,
then notices, then images (R170). -/
def Tether.takeNext (t : Tether) : Tether :=
  if t.link = .up ∧ t.sending = none then
    match t.replies, t.notices, t.images with
    | r :: rest, _, _ => { t with sending := some r, replies := rest }
    | [], r :: rest, _ => { t with sending := some r, notices := rest }
    | [], [], r :: rest => { t with sending := some r, images := rest }
    | [], [], [] => t
  else t

/-- Place a record at the tail of the tether's reply queue, or discard it while the link is not UP (R169). -/
def Tether.pushReply (t : Tether) (r : Record) : Tether :=
  if t.link = .up then { t with replies := t.replies ++ [r] }.takeNext else t

/-- Queue a notice, or discard it while the notice queue is full or the link is not UP (R170). -/
def Tether.pushNotice (t : Tether) (r : Record) : Tether :=
  if t.link = .up ∧ t.notices.length < Config.noticePlaces then { t with notices := t.notices ++ [r] }.takeNext else t

/-- Place an image record at the tail of the image queue (R110). -/
def Tether.pushImage (t : Tether) (r : Record) : Tether := { t with images := t.images ++ [r] }.takeNext

/-- Queue a reply at its port (R169, R171). -/
def pushReply (p : Port) (r : Record) (s : State) : State :=
  match p with
  | .tether => { s with tether := s.tether.pushReply r }
  | .service => { s with service.replies := s.service.replies ++ [r] }

/-- Queue a notice on the tether port; notices carry the tag 0 (R166). -/
def pushNotice (kind : Nat) (payload : List Byte) (s : State) : State :=
  { s with tether := s.tether.pushNotice ⟨kind, 0, payload⟩ }

/-- STARTED notice (Table 10-2). -/
def startedKind : Nat := 0xF0
/-- FAULT RAISED notice. -/
def faultRaisedKind : Nat := 0xF1
/-- VIEW READY notice. -/
def viewReadyKind : Nat := 0xF2
/-- ACQUISITION ENDED notice. -/
def acquisitionEndedKind : Nat := 0xF3

/-! ### Requests: waiting, taking, answering (R168, R169) -/

/-- The request queue of a port. -/
def State.queueOf (s : State) : Port → List Waiting
  | .tether => s.tetherQueue
  | .service => s.serviceQueue

/-- Replace the request queue of a port. -/
def State.setQueue (s : State) (p : Port) (l : List Waiting) : State :=
  match p with
  | .tether => { s with tetherQueue := l }
  | .service => { s with serviceQueue := l }

/-- Places of a port's request queue (R168). -/
def requestPlaces : Port → Nat
  | .tether => Config.tetherRequestPlaces
  | .service => Config.serviceRequestPlaces

/-- Places of a port's reply queue (R170, R171). -/
def replyPlaces : Port → Nat
  | .tether => Config.tetherReplyPlaces
  | .service => Config.serviceReplyPlaces

/-- Records in a port's reply queue. -/
def State.replyCount (s : State) : Port → Nat
  | .tether => s.tether.replies.length
  | .service => s.service.replies.length

/-- A request of the port waits for a delayed outcome: a Store Check runs for it (R169). -/
def State.delayed (s : State) (p : Port) : Bool :=
  match s.store.op with
  | some (.check q) => q.port == p
  | _ => false

/-- The port's reply queue has a free place and no request of the port waits for a delayed outcome (R169). -/
def State.canServe (s : State) (p : Port) : Bool :=
  decide (s.replyCount p < replyPlaces p) && !s.delayed p

/-- The port is ready: it can be served and has a queued request (R169). -/
def State.ready (s : State) (p : Port) : Bool := s.canServe p && !(s.queueOf p).isEmpty

/-- The Dispatcher may take a request from the port now: no restart is pending (R175), the port can be served, and the
turn is not the other port's (R169). -/
def State.mayTake (s : State) (p : Port) : Bool :=
  s.restartPending.isNone && s.canServe p && !(s.lastServed == p && s.ready p.other)

/-- Add one to a port's framing error count, which stays at 65535 (R166). -/
def countFramingError (p : Port) (s : State) : State :=
  match p with
  | .tether => { s with tether.errors := min 65535 (s.tether.errors + 1) }
  | .service => { s with service.errors := min 65535 (s.service.errors + 1) }

/-- A request joins the tail of its port's queue; when that is full it is answered QUEUE_FULL if a reply place is free,
one place being held for a delayed outcome, and otherwise discarded and counted as a framing error (R168). -/
def arrive (p : Port) (kind tag : Nat) (w : Waiting) (s : State) : State :=
  if (s.queueOf p).length < requestPlaces p then s.setQueue p (s.queueOf p ++ [w])
  else if s.replyCount p + (if s.delayed p then 1 else 0) < replyPlaces p then
    pushReply p ⟨replyKind kind, tag, u8 Code.queueFull.value⟩ s
  else countFramingError p s

/-- The request stands first in line at its port: at the head of the queue, or at an empty queue (log 1). -/
def State.firstInLine (s : State) (p : Port) (i : Instr) : Bool :=
  match s.queueOf p with
  | [] => true
  | w :: _ => w == .request i

/-- The Dispatcher takes the request at the head of a port's queue. -/
def State.taken (s : State) (p : Port) : State := { s.setQueue p ((s.queueOf p).drop 1) with lastServed := p }

/-- The request is taken by this step. -/
def State.takes (s : State) (q : Req) (i : Instr) : Bool := s.firstInLine q.port i && s.mayTake q.port

/-- A request that cannot be taken now waits: it stays at the head of its queue, or joins the tail (R168; log 1). -/
def requestWaits (q : Req) (i : Instr) (s : State) : State :=
  match s.queueOf q.port with
  | w :: _ => if w = .request i then s else arrive q.port ((requestKind i).getD 0) q.tag (.request i) s
  | [] => arrive q.port ((requestKind i).getD 0) q.tag (.request i) s

/-- An owner's outcome: the reply's result code and data (none for a delayed reply) and the state after the request. -/
structure Answer where
  reply : Option (Code × List Byte)
  state : State
  deriving DecidableEq, Repr

/-- A refusal: the result code alone, and nothing changes. -/
def refuse (c : Code) (s : State) : Answer := ⟨some (c, []), s⟩

/-- The outcome OK with the reply's data. -/
def okWith (data : List Byte) (s : State) : Answer := ⟨some (.ok, data), s⟩

/-- The outcome ACCEPTED with the reply's data. -/
def acceptedWith (data : List Byte) (s : State) : Answer := ⟨some (.accepted, data), s⟩

/-- The owner's outcome becomes the reply: kind of the request plus 80 hex, the request's tag, result code and data
(R166, R167, R169). -/
def answer (q : Req) (i : Instr) (a : Answer) : State :=
  match a.reply with
  | none => a.state
  | some (c, data) => pushReply q.port ⟨replyKindOf i, q.tag, u8 c.value ++ data⟩ a.state

/-- In BOOT every kind except Query Status is answered REFUSED_MODE, after the checks of kind and length (R169 (3)). -/
def refusedInBoot : Instr → Bool
  | .queryStatus _ => false
  | .unknownKind _ _ => false
  | _ => true

/-- The Dispatcher's work on a request it has taken: the check of BOOT, then the owner (R169 (3) and (4)). A request refused
in BOOT is answered with the code alone, a Bind View included, whose R74 gives the slot's state to every reply (the model's
choice, log 42). -/
def serveRequest (q : Req) (i : Instr) (serve : State → State) (s : State) : State :=
  if s.mode = .boot ∧ refusedInBoot i = true then answer q i (refuse .refusedMode s) else serve s

/-- A request command: taken and served when it stands first in line and the port may be served, else it waits. -/
def asRequest (q : Req) (i : Instr) (serve : State → State) (s : State) : Host.Outcome State Fault Refusal :=
  if i.wellFormed = true then
    if s.takes q i = true then .next (serveRequest q i serve (s.taken q.port)) else .next (requestWaits q i s)
  else .refused .illFormed

/-- A request command whose owner answers at once. -/
def ownedRequest (q : Req) (i : Instr) (owner : State → Answer) (s : State) : Host.Outcome State Fault Refusal :=
  asRequest q i (fun t => answer q i (owner t)) s

/-- The owner's outcome becomes the reply, which is queued before the notices and the image records of the owner's effects: a
free transmitter takes the reply first (R100, R170; log 13). -/
def answerFirst (q : Req) (i : Instr) (owner : State → Answer) (s : State) : State :=
  match (owner s).reply with
  | none => (owner s).state
  | some (c, data) => (owner (pushReply q.port ⟨replyKindOf i, q.tag, u8 c.value ++ data⟩ s)).state

/-- A request command whose effects queue notices or image records: its reply stands before them. -/
def recordingRequest (q : Req) (i : Instr) (owner : State → Answer) (s : State) : Host.Outcome State Fault Refusal :=
  asRequest q i (answerFirst q i owner) s

/-- An event command: an ill-formed one is refused. -/
def asEvent (i : Instr) (effect : State → State) (s : State) : Host.Outcome State Fault Refusal :=
  if i.wellFormed = true then .next (effect s) else .refused .illFormed

/-! ### Frame slots (R7, R8) -/

/-- A frame slot by number. -/
def State.slot (s : State) (n : Nat) : FrameSlot := s.slots.getD n FrameSlot.atReset

/-- Change one frame slot. -/
def modifySlot (n : Nat) (f : FrameSlot → FrameSlot) (s : State) : State := { s with slots := s.slots.modify n f }

/-- A slot becomes FREE and leaves the held list (R7). -/
def freeSlot (n : Nat) (s : State) : State :=
  { modifySlot n (fun x => { x with state := .free, pinned := false, count := 0 }) s with
    held := s.held.filter (· != n) }

/-- Free a HELD slot that is not pinned and has no outstanding entry (R8). -/
def freeIfDone (n : Nat) (s : State) : State :=
  if (s.slot n).state = .held ∧ (s.slot n).pinned = false ∧ (s.slot n).count = 0 then freeSlot n s else s

/-- One entry end on a slot: the outstanding count falls by one, and the slot is freed at 0 unless pinned (R8). -/
def releaseSlotUse (n : Nat) (s : State) : State :=
  freeIfDone n (modifySlot n (fun x => { x with count := x.count - 1 }) s)

/-- Number of pinned slots plus one if a next pin is pending (R17). -/
def State.pins (s : State) : Nat := (s.slots.filter (·.pinned)).length + (if s.nextPin then 1 else 0)

/-! ### Map links and acquisitions -/

/-- The map link of a port (R44). -/
def State.mapLink (s : State) : Port → Option MapLink
  | .tether => s.linkTether
  | .service => s.linkService

/-- Set the map link of a port. -/
def State.setMapLink (s : State) (p : Port) (l : Option MapLink) : State :=
  match p with
  | .tether => { s with linkTether := l }
  | .service => { s with linkService := l }

/-- Make absent the links that a test finds touched. -/
def breakLinks (touched : MapLink → Bool) (s : State) : State :=
  { s with linkTether := s.linkTether.filter (fun l => !touched l),
           linkService := s.linkService.filter (fun l => !touched l) }

/-- A flat-field acquisition is in flight (R51). -/
def State.flatInFlight (s : State) : Bool := s.cal.acq.any fun a => a.kind == .flat

/-- An acquisition in flight ends with the given outcome: the context becomes absent, the flat-field hold ends, and the
ACQUISITION ENDED notice carries kind, outcome and frames taken (R58, R59, R61, R131). -/
def endAcquisition (o : AcqOutcome) (s : State) : State :=
  match s.cal.acq with
  | none => s
  | some a =>
    pushNotice acquisitionEndedKind (u8 a.kind.code ++ u8 o.code ++ u8 a.taken)
      { s with cal.acq := none, ring.flatHold := false }

/-! ### Load end and reset (R177, R179) -/

/-- The load ends: SETUP, the outcome held, and the STARTED notice (R179). -/
def loadEnd (o : LoadOutcome) (s : State) : State :=
  pushNotice startedKind (u8 o.code) { s with mode := .setup, store.outcome := some o, store.load := .idle }

/-- The page whose write is in flight, if any. -/
def Store.pageInFlight (x : Store) : Option Nat :=
  match x.op with
  | some (.pageWrite page _) => some page
  | _ => none

/-- The undefined pages after a reset: a page whose write the reset cut short joins them (R180; log 6). -/
def Store.undefinedAfterReset (x : Store) (stamp : Nat) : List (Nat × Nat) :=
  match x.pageInFlight with
  | some page => (page, stamp) :: x.undefinedPages.filter (fun e => e.1 != page)
  | none => x.undefinedPages

/-- Every block takes its reset state under the given straps, with the given tether port. What a reset does not touch
stays: the command queue, the pixels and the flash, the nodes of the mesh buffers and the level of the expander interrupt
input (R22, R83, R177). -/
def resetBlocks (t : Straps) (port : Tether) (s : State) : State :=
  { State.reset with
    pending := s.pending
    tether := port
    service := Service.atReset t
    frameStore := s.frameStore
    badWords := s.badWords
    viewA := ViewSlot.atReset s.viewA.buffer0.nodes s.viewA.buffer1.nodes
    viewB := ViewSlot.atReset s.viewB.buffer0.nodes s.viewB.buffer1.nodes
    head := Head.atReset s.head.interrupt
    store := { Store.atReset t with
      flash := s.store.flash
      undefinedPages := s.store.undefinedAfterReset s.freeCount }
    freeCount := s.freeCount + 1 }

/-- The reset: every block's reset state in BOOT, and with STORE_EN inactive the load ends at once with DEFAULTS
(R177). -/
def resetPart (t : Straps) (port : Tether) (s : State) : State :=
  if t.storeEn = true then resetBlocks t port s else loadEnd .defaults (resetBlocks t port s)

/-- Power-on and the external reset input: the straps are sampled (R164, R176). -/
def resetWithStraps (t : Straps) (s : State) : State := resetPart t (Tether.atReset t) s

/-- A restart: the straps keep their held values, and a link that is UP stays UP at its rate (R175). -/
def carryOutRestart (s : State) : State :=
  resetPart s.store.straps
    (if s.tether.link = .up then
      { Tether.atReset s.store.straps with link := .up, offered := s.tether.offered }
    else Tether.atReset s.store.straps) s

end Sys2Proof.Machine
end

