-- ==== Sys2Proof/Machine/Flags.lean ====
section
/-! DEFINITION. The Fault Table's shared operations: the conditions of the kinds (Table 9-2), the FAULT line (R162) and
the raise of a kind (R159). -/

namespace Sys2Proof.Machine

/-- All fault kinds, in the order of Table 9-2. -/
def FaultKind.all : List FaultKind :=
  [.housingLeak, .headHot, .ringAbsent, .channelOpen, .ringDimTrip, .ringOffTrip, .expanderSilent, .sensorTimeout,
   .frameStoreEcc, .storeImageBad, .storeImageIrregular, .linkLost]

/-- The temperature band formed from the accepted values, none while both inputs are UNKNOWN (R154 (2)). -/
def Head.currentBand (h : Head) : Option Band :=
  if h.hot.accepted = .active then some .hot
  else if h.warm.accepted = .active then some .warm
  else if h.warm.accepted = .unknown ∧ h.hot.accepted = .unknown then none
  else some .normal

/-- The head condition: LEAK accepted ACTIVE or UNKNOWN, or the monitor SILENT (R154). -/
def Head.condition (h : Head) : Bool := h.leak.accepted != .inactive || h.silent

/-- Whether the condition of a kind stands (Table 9-2, R158). -/
def State.conditionStands (s : State) : FaultKind → Bool
  | .housingLeak => s.head.leak.accepted == .active || s.ring.causes.leak
  | .headHot => s.head.currentBand == some .hot
  | .ringAbsent => s.head.present.accepted == .inactive
  | .channelOpen => s.ring.channels.any fun c => c.state == .opened
  | .ringDimTrip => s.sup.level != .none
  | .ringOffTrip => s.sup.level == .two
  | .expanderSilent => s.head.silent
  | .sensorTimeout => false
  | .frameStoreEcc => false
  | .storeImageBad => false
  | .storeImageIrregular => false
  | .linkLost => false

/-- The entry of a kind. -/
def FaultTable.entry (t : FaultTable) (k : FaultKind) : FaultEntry :=
  t.entries.getD k.code ⟨false, .notice, false, none, 0⟩

/-- The FAULT output is asserted exactly while the line is enabled and some kind is SET, FATAL and unmasked (R162). -/
def FaultTable.asserted (t : FaultTable) : Bool :=
  t.lineEnabled && t.entries.any fun e => e.set && e.severity == .fatal && !e.masked

/-- Form the FAULT line anew (R162). -/
def FaultTable.formLine (t : FaultTable) : FaultTable := { t with line := t.asserted }

/-- Change the entry of a kind. -/
def FaultTable.modify (t : FaultTable) (k : FaultKind) (f : FaultEntry → FaultEntry) : FaultTable :=
  { t with entries := t.entries.modify k.code f }

/-- The tag recorded at a raise: the tag of the latest frame start in RUN, 4095 in BOOT and SETUP (R159). -/
def State.raiseTag (s : State) : Nat := if s.mode = .run then s.capture.tag else 4095

/-- Raise a fault kind: its count rises; a CLEAR kind becomes SET with its tag, sends FAULT RAISED when unmasked, and the
FAULT line is formed anew (R159). -/
def raise (k : FaultKind) (s : State) : State :=
  if (s.faults.entry k).set = true then
    { s with faults := s.faults.modify k fun e => { e with count := min 65535 (e.count + 1) } }
  else
    let t : State := { s with
      faults := (s.faults.modify k fun e =>
        { e with set := true, tag := some s.raiseTag, count := min 65535 (e.count + 1) }).formLine }
    if (s.faults.entry k).masked = true then t
    else pushNotice faultRaisedKind (u8 k.code ++ u8 (s.faults.entry k).severity.code ++ u16 s.raiseTag) t

/-- Raise a kind `n` times. -/
def raiseTimes (k : FaultKind) : Nat → State → State
  | 0, s => s
  | n + 1, s => raiseTimes k n (raise k s)

end Sys2Proof.Machine
end

