-- ==== Sys2Proof/Machine/Geometry.lean ====
section
/-! DEFINITION. The arithmetic of mesh nodes (R91 to R95) and of a whole mesh (R82). -/

namespace Sys2Proof.Machine

/-- The quotient rounded to nearest, halves away from zero: the brackets [ ] of section 0.5 (Table 0-2). -/
def roundAway (a : Int) (b : Nat) : Int :=
  if a < 0 then -(((2 * a.natAbs + b) / (2 * b) : Nat) : Int) else (((2 * a.natAbs + b) / (2 * b) : Nat) : Int)

/-- Saturation to a range (Table 0-2). -/
def saturate (lo hi x : Int) : Int := if x < lo then lo else if hi < x then hi else x

/-- Saturation of a natural number to a range. -/
def clampNat (lo hi x : Nat) : Nat := if x < lo then lo else if hi < x then hi else x

/-- One bit at a time of the integer square root of `n`, from bit `b - 1` down. -/
def isqrtFrom (n : Nat) : Nat → Nat → Nat
  | 0, r => r
  | b + 1, r => if (r + 2 ^ b) * (r + 2 ^ b) ≤ n then isqrtFrom n b (r + 2 ^ b) else isqrtFrom n b r

/-- The integer square root, rounded down: the greatest integer whose square is at most `n`, for n below 2^64. -/
def isqrt (n : Nat) : Nat := isqrtFrom n 32 0

/-- Output size in pixels (R64). -/
def Profile.pixelWidth (p : Profile) : Nat := 32 * p.width

/-- Number of node columns of a mesh `w` tiles wide, or of node rows of one `w` tiles high (R82). -/
def nodeSpan (w : Nat) : Nat := 2 * w + 1

/-- The radial argument ρ of the output point (x, y), in 1/16 px (R91). -/
def radialArgument (p : Profile) (x y : Nat) : Nat :=
  match p.kind with
  | .radial => isqrt (256 * (((x : Int) - p.ocx).natAbs ^ 2 + ((y : Int) - p.ocy).natAbs ^ 2))
  | .unroll => 16 * y

/-- The source radius Rs for a radial argument, none beyond the end of the table (R92). -/
def sourceRadius (t : List Nat) (step rho : Nat) : Option Int :=
  let s16 := 16 * step
  let k := rho / s16
  let f := rho % s16
  if k ≤ 63 then
    some (((t.getD k 0 : Nat) : Int) +
      ((((t.getD (k + 1) 0 : Nat) : Int) - ((t.getD k 0 : Nat) : Int)) * f + 8 * step) / (s16 : Int))
  else if k = 64 ∧ f = 0 then some ((t.getD 64 0 : Nat) : Int)
  else none

/-- The angle code of a node column at output x (R94). -/
def angleCode (p : Profile) (x : Nat) : Nat :=
  (p.startAngle + (x * 4096 + p.pixelWidth / 2) / p.pixelWidth) % 4096

/-- The node at output point (x, y) (R91 to R95). -/
def meshNode (p : Profile) (t : List Nat) (x y : Nat) : Node :=
  let rho := radialArgument p x y
  match sourceRadius t p.step rho with
  | none => ⟨p.scx, p.scy, false⟩
  | some rs =>
    match p.kind with
    | .radial =>
      if rho = 0 then ⟨p.scx, p.scy, true⟩
      else
        ⟨saturate (-32768) 32767 (p.scx + roundAway (rs * 16 * ((x : Int) - p.ocx)) rho),
         saturate (-32768) 32767 (p.scy + roundAway (rs * 16 * ((y : Int) - p.ocy)) rho), true⟩
    | .unroll =>
      let a := angleCode p x
      ⟨saturate (-32768) 32767 (p.scx + roundAway (rs * cosine a) 16384),
       saturate (-32768) 32767 (p.scy + roundAway (rs * sine a) 16384), true⟩

/-- The number of nodes of a profile's mesh (R82). -/
def meshNodeCount (p : Profile) : Nat := nodeSpan p.width * nodeSpan p.height

/-- The mesh of a profile, nodes in row order, node (nx, ny) at output point (16·nx, 16·ny) (R82, R87). -/
def buildMesh (p : Profile) (t : List Nat) : List Node :=
  (List.range (nodeSpan p.height)).flatMap fun ny =>
    (List.range (nodeSpan p.width)).map fun nx => meshNode p t (16 * nx) (16 * ny)

end Sys2Proof.Machine
end

