-- ==== Sys2Proof/Machine/Light.lean ====
section
/-! DEFINITION. The Ring Controller's shared operations (R117 to R128) and the supply write they ask for (R155). -/

namespace Sys2Proof.Machine

/-- An enabled NORMAL channel (R115). -/
def Channel.usable (c : Channel) : Bool := c.enabled && c.state == .normal

/-- Σdmin over the enabled NORMAL channels (R118). -/
def Ring.minimumSum (r : Ring) : Nat := ((r.channels.filter (·.usable)).map (·.dmin)).sum

/-- Sum of dmin over the enabled channels (R116, R117, R172). -/
def Ring.enabledMinimumSum (r : Ring) : Nat := ((r.channels.filter (·.enabled)).map (·.dmin)).sum

/-- The budget under a temperature band, before the floor (R118). -/
def bandBudget (b : Nat) : Band → Nat
  | .normal => b
  | .warm => 3 * b / 4
  | .hot => b / 2

/-- The effective budget E (R118). -/
def Ring.effective (r : Ring) : Nat := max (bandBudget r.budget r.band) r.minimumSum

/-- Whether the budget step scales the proposed codes (R119). -/
def Ring.scales (r : Ring) (proposed : List Nat) : Bool := decide (r.effective < proposed.sum)

/-- Σ(d′ − dmin) over the enabled NORMAL channels (R119 (2)). -/
def Ring.excess (r : Ring) (proposed : List Nat) : Nat :=
  (List.zipWith (fun c d => if c.usable then d - c.dmin else 0) r.channels proposed).sum

/-- The budget step (R119). -/
def Ring.budgetStep (r : Ring) (proposed : List Nat) : List Nat :=
  if r.scales proposed then
    List.zipWith
      (fun c d => if c.usable then c.dmin + (d - c.dmin) * (r.effective - r.minimumSum) / r.excess proposed else 0)
      r.channels proposed
  else proposed

/-- Every code 0. -/
def zeroCodes : List Nat := List.replicate 12 0

/-- dmin for each enabled NORMAL channel and 0 for the others (R125). -/
def Ring.dimCodes (r : Ring) : List Nat := r.channels.map fun c => if c.usable then c.dmin else 0

/-- The start drive of each enabled NORMAL channel and 0 for the others (R123, R127). -/
def Ring.startCodes (r : Ring) : List Nat := r.channels.map fun c => if c.usable then c.start else 0

/-- The proposed codes settle: by the budget step in LIT, directly in the other states (R119). -/
def settleCodes (proposed : List Nat) (s : State) : State :=
  { s with ring.codes := if s.ring.state = .lit then s.ring.budgetStep proposed else proposed }

/-- The Ring Controller asks the Head Input Monitor for a supply write (R155). A set-up write in flight counts as the write in
flight of R155 (3) and (4) (the model's choice, log 46). -/
def requestSupplyWrite (v : Bool) (s : State) : State :=
  if s.head.silent = true then s
  else
    match s.head.transfer with
    | none => { s with head.transfer := some (.supplyWrite v), head.retried := false }
    | some (.supplyWrite w) =>
      if w = v then { s with head.pendingWrite := none } else { s with head.pendingWrite := some v }
    | some (.setUp w) =>
      if w = v then { s with head.pendingWrite := none } else { s with head.pendingWrite := some v }
    | some .read => { s with head.pendingWrite := some v }

/-- The supply demand becomes `v`; a change asks for a write of the line (R122, R155). -/
def setDemand (v : Bool) (s : State) : State :=
  if s.ring.demand = v then s else requestSupplyWrite v { s with ring.demand := v }

/-- A ring state that ends a flat-field acquisition (R61). -/
def RingState.endsFlat : RingState → Bool
  | .dim => true
  | .lockedOff => true
  | .absent => true
  | .off => false
  | .lit => false

/-- The ring state changes: the Drive Supervisor's copy follows, and a flat-field acquisition in flight ends FAILED when
the state becomes DIM, LOCKED_OFF or ABSENT (R61, R122, R139). -/
def setRingState (x : RingState) (s : State) : State :=
  if s.ring.state = x then s
  else
    let t : State := { s with ring.state := x, sup.ring := x }
    if x.endsFlat = true ∧ s.flatInFlight = true then endAcquisition .failed t else t

/-- The causes that lock the ring off. -/
inductive LockCause where
  | offTrip | leak | silent
  deriving DecidableEq, Repr

/-- A cause joins the lock causes (R122 (2)). -/
def LockCauses.join (l : LockCauses) : LockCause → LockCauses
  | .offTrip => { l with offTrip := true }
  | .leak => { l with leak := true }
  | .silent => { l with silent := true }

/-- The ring is locked off: codes 0, the cause noted, the supply demand OFF (R125, R128). -/
def lockOff (cause : LockCause) (s : State) : State :=
  setDemand false (setRingState .lockedOff { s with ring.codes := zeroCodes, ring.causes := s.ring.causes.join cause })

/-- A leak or expander silence reported to the Ring Controller (R128). -/
def headLock (cause : LockCause) (s : State) : State :=
  match s.ring.state with
  | .off => s
  | .lockedOff => { s with ring.causes := s.ring.causes.join cause }
  | _ => lockOff cause s

/-- A dim trip (R125). -/
def ringDimTrip (s : State) : State :=
  setRingState .dim { s with ring.trip := .one, ring.codes := s.ring.dimCodes }

/-- An off trip (R125). -/
def ringOffTrip (s : State) : State := lockOff .offTrip { s with ring.trip := .two }

/-- An open-channel report: the channel becomes OPEN with code 0, and in LIT the other codes are settled (R126). -/
def openReport (k : Nat) (s : State) : State :=
  let t : State := { s with
    ring.channels := s.ring.channels.modify k fun c => { c with state := .opened }
    ring.codes := s.ring.codes.set k 0 }
  settleCodes t.ring.codes t

/-- The band copy is written; in LIT the budget step is applied to the present codes (R118, R120). -/
def bandReport (b : Band) (s : State) : State :=
  let t : State := { s with ring.band := b, ring.bandReported := true }
  settleCodes t.ring.codes t

/-- The ring becomes LIT with the start drives under the budget step (R123 (2), R127 (2)). -/
def lightRing (s : State) : State :=
  let t := setRingState .lit s
  settleCodes t.ring.startCodes t

/-- The presence copy is written, and a ring that may be lit follows it (R118, R127). -/
def presenceReport (present : Bool) (s : State) : State :=
  let t : State := { s with ring.presence := present, ring.presenceReported := true }
  match present, t.ring.state, t.ring.trip with
  | false, .lit, _ => setRingState .absent { t with ring.codes := zeroCodes }
  | false, .dim, _ => setRingState .absent { t with ring.codes := zeroCodes }
  | true, .absent, .none => lightRing t
  | true, .absent, .one => setRingState .dim { t with ring.codes := t.ring.dimCodes }
  | _, _, _ => t

/-- A lit exposure is in progress (R121). -/
def State.litExposure (s : State) : Bool :=
  s.capture.mode == .exposing && s.capture.frame.any fun f => f.cls == .lit

/-- The twelve channel outputs: the drive codes during a lit exposure in LIT or DIM, else 0 (R121). -/
def State.outputs (s : State) : List Nat :=
  if s.litExposure = true ∧ (s.ring.state = .lit ∨ s.ring.state = .dim) then s.ring.codes else zeroCodes

end Sys2Proof.Machine
end

