-- ==== Sys2Proof/Machine/BalanceUpdate.lean ====
section
/-! DEFINITION. The balance update at a lit frame's readout completion (R131 to R135). -/

namespace Sys2Proof.Machine

/-- A channel's loop step for its sector mean (R133). -/
def loopStep (b : Balance) (mean : Nat) : Int :=
  let e : Int := (b.target : Int) - mean
  if e.natAbs ≤ b.deadband then 0
  else saturate (-(b.slew : Int)) b.slew (roundAway (e * b.kp) 4096)

/-- A code moved by a step and saturated to dmin to dmax (R133). -/
def moveCode (c : Channel) (d : Nat) (step : Int) : Nat := (saturate c.dmin c.dmax ((d : Int) + step)).toNat

/-- A channel that is steered: enabled NORMAL, its sector-mask bit set and its sector with a zone (R133, R135). -/
def steered (b : Balance) (st : SectorStats) (k : Nat) (c : Channel) : Bool :=
  c.usable && b.mask.testBit k && decide (0 < st.zoneCounts.getD k 0)

/-- The proposed code of one channel under the response NORMAL or DIM_HOT (R132, R133). -/
def proposeCode (b : Balance) (st : SectorStats) (response : Glare) (k : Nat) (c : Channel) (d : Nat) : Nat :=
  if response = .dimHot ∧ c.usable = true ∧ st.pattern.testBit k = true then moveCode c d (-(b.slew : Int))
  else if steered b st k c = true then moveCode c d (loopStep b (st.means.getD k 0))
  else d

/-- The proposed codes of an update (R132). -/
def proposeCodes (r : Ring) (st : SectorStats) (response : Glare) : List Nat :=
  match response with
  | .hold => r.codes
  | .shorten => r.codes
  | .normal => (List.zip r.channels r.codes).mapIdx fun k p => proposeCode r.balance st .normal k p.1 p.2
  | .dimHot => (List.zip r.channels r.codes).mapIdx fun k p => proposeCode r.balance st .dimHot k p.1 p.2

/-- The channels of U (R135). -/
def exposureChannels (r : Ring) (st : SectorStats) : List Nat :=
  (List.range 12).filter fun k => steered r.balance st k (r.channels.getD k Channel.atReset)

/-- The mean of the sector means over U, rounded down (R135). -/
def exposureMean (st : SectorStats) (u : List Nat) : Nat := ((u.map fun k => st.means.getD k 0).sum) / u.length

/-- The change that auto-exposure asks for (R135), `r` holding the new codes. -/
def exposureChange (r : Ring) (st : SectorStats) (scaled : Bool) : Int :=
  let u := exposureChannels r st
  let m : Int := exposureMean st u
  let atTop := u.all fun k => scaled || r.codes.getD k 0 == (r.channels.getD k Channel.atReset).dmax
  let atBottom := u.all fun k => r.codes.getD k 0 == (r.channels.getD k Channel.atReset).dmin
  if u.isEmpty = true then 0
  else if atTop = true ∧ m < (r.balance.target : Int) - r.balance.margin then 1
  else if atBottom = true ∧ (r.balance.target : Int) + r.balance.margin < m then -1
  else 0

/-- Whether auto-exposure adjusts the request under a response (R132, R135). -/
def adjustsExposure (r : Ring) (response : Glare) : Bool :=
  r.balance.autoExposure && (response == .normal || response == .dimHot)

/-- The step asked of the requested index (R132 (4), R135). -/
def indexStep (r : Ring) (st : SectorStats) (response : Glare) (scaled : Bool) : Int :=
  if response = .shorten then -1
  else if adjustsExposure r response = true then exposureChange r st scaled
  else 0

/-- The requested index after a step, staying within 0 to 15 (R3, R132, R135). -/
def steppedIndex (n : Nat) (step : Int) : Nat :=
  if step = 1 then (if 15 ≤ n then n else n + 1) else if step = -1 then n - 1 else n

/-- The balance update (R132 to R135). -/
def applyUpdate (st : SectorStats) (s : State) : State :=
  let response := s.ring.glare.getD st.pattern .normal
  let proposed := proposeCodes s.ring st response
  let scaled := s.ring.scales proposed
  let t := settleCodes proposed s
  let index := steppedIndex s.capture.requested (indexStep t.ring st response scaled)
  { t with
    capture.requested := index
    ring.last := some ⟨st.tag, .applied response scaled ((index : Int) - s.capture.requested)⟩ }

/-- The hand-over of a sector statistics record to the Ring Controller (R131). -/
def balanceHandOver (st : SectorStats) (s : State) : State :=
  if ¬ (s.ring.note = some .lit ∧ s.ring.state = .lit) then { s with ring.last := some ⟨st.tag, .notLit⟩ }
  else if s.ring.balance.loopMode ≠ .loop then { s with ring.last := some ⟨st.tag, .manual⟩ }
  else if s.ring.flatHold = true then { s with ring.last := some ⟨st.tag, .held⟩ }
  else applyUpdate st s

end Sys2Proof.Machine
end

