-- ==== Sys2Proof/Machine/Builds.lean ====
section
/-! DEFINITION. Bound marks and holds (R73), builds and mesh buffers (R84 to R89), adoption and unbinding (R76 to R79). -/

namespace Sys2Proof.Machine

/-- A profile by selector. -/
def State.profile (s : State) (sel : Nat) : Profile := s.table.profiles.getD sel Profile.atReset

/-- The entries of a radial table. -/
def State.radialTable (s : State) (n : Nat) : List Nat := s.table.radial.getD n []

/-- The hold count of a radial table. -/
def State.hold (s : State) (n : Nat) : Nat := s.table.holds.getD n 0

/-- The mark of the active selector of a slot. -/
def activeMark : View → Mark
  | .a => .aActive
  | .b => .bActive

/-- The mark of the pending selector of a slot. -/
def pendingMark : View → Mark
  | .a => .aPending
  | .b => .bPending

/-- The hold count of a table after a mark changes (R73). -/
def holdAfter (old new : Mark) (n : Nat) : Nat :=
  if old = .none ∧ new ≠ .none then n + 1 else if old ≠ .none ∧ new = .none then n - 1 else n

/-- Set a profile's mark and maintain the hold count of its radial table (R73). -/
def setMark (sel : Nat) (m : Mark) (s : State) : State :=
  { s with
    table.profiles := s.table.profiles.modify sel (fun p => { p with mark := m })
    table.holds := s.table.holds.modify (s.profile sel).table (holdAfter (s.profile sel).mark m) }

/-- Change one mesh buffer. -/
def modifyBuffer (v : View) (b : Nat) (f : MeshBuffer → MeshBuffer) (s : State) : State :=
  s.setView v ((s.view v).setBuffer b (f ((s.view v).buffer b)))

/-- Set the pending change of a slot. -/
def setPendingChange (v : View) (p : PendingChange) (s : State) : State :=
  s.setView v { s.view v with pending := p }

/-- A build starts in buffer `b`: BUILDING, with the profile's selector and node count and no use (R85). -/
def startBuild (v : View) (b sel : Nat) (s : State) : State :=
  setPendingChange v (.profile sel .building)
    (modifyBuffer v b (fun m =>
      { m with state := .building, selector := some sel, nodeCount := meshNodeCount (s.profile sel), uses := 0 }) s)

/-- The buffer a new build takes: the lowest FREE one (R85). -/
def ViewSlot.freeBuffer (x : ViewSlot) : Option Nat :=
  if x.buffer0.state = .free then some 0 else if x.buffer1.state = .free then some 1 else none

/-- The slot's pending change becomes PROFILE with its build, begun in a FREE buffer or WAITING for one (R75, R85). -/
def requestBuild (v : View) (sel : Nat) (s : State) : State :=
  match (s.view v).freeBuffer with
  | some b => startBuild v b sel s
  | none => setPendingChange v (.profile sel .waiting) s

/-- A buffer with its mesh given up: FREE, without selector (R88, R89), and with node count 0 (the model's choice, log 44). -/
def MeshBuffer.freed (m : MeshBuffer) : MeshBuffer := { m with state := .free, selector := none, nodeCount := 0, uses := 0 }

/-- A buffer becomes FREE, and a WAITING build of its slot starts in it (R86, R89). -/
def releaseBuffer (v : View) (b : Nat) (s : State) : State :=
  match ((modifyBuffer v b MeshBuffer.freed s).view v).pending with
  | .profile sel .waiting => startBuild v b sel (modifyBuffer v b MeshBuffer.freed s)
  | _ => modifyBuffer v b MeshBuffer.freed s

/-- A buffer that holds the slot's build is given up: BUILDING or READY becomes FREE (R88). -/
def MeshBuffer.abandoned (m : MeshBuffer) : MeshBuffer :=
  if m.state = .building ∨ m.state = .ready then m.freed else m

/-- The pending change is cancelled: a pending profile's mark is released and its build abandoned; UNBIND is withdrawn
(R74 (7), R75, R76 (1), R88). -/
def cancelPending (v : View) (s : State) : State :=
  match (s.view v).pending with
  | .absent => s
  | .unbind => setPendingChange v .absent s
  | .profile sel _ =>
    setPendingChange v .absent
      (modifyBuffer v 1 MeshBuffer.abandoned (modifyBuffer v 0 MeshBuffer.abandoned (setMark sel .none s)))

/-- A buffer is retired: FREE at once without a use, else RETIRING (R89). -/
def retireBuffer (v : View) (b : Nat) (s : State) : State :=
  if ((s.view v).buffer b).uses = 0 then releaseBuffer v b s
  else modifyBuffer v b (fun m => { m with state := .retiring }) s

/-- A use of a buffer begins (R84). -/
def addUse (v : View) (b : Nat) (s : State) : State := modifyBuffer v b (fun m => { m with uses := m.uses + 1 }) s

/-- A use of a buffer ends; a RETIRING buffer whose count falls to 0 becomes FREE (R84, R89). -/
def dropUse (v : View) (b : Nat) (s : State) : State :=
  if ((s.view v).buffer b).state = .retiring ∧ ((s.view v).buffer b).uses ≤ 1 then releaseBuffer v b s
  else modifyBuffer v b (fun m => { m with uses := m.uses - 1 }) s

/-- VIEW READY notice (R79). -/
def viewReady (v : View) (sel : Nat) (s : State) : State := pushNotice viewReadyKind (u8 v.code ++ u8 sel) s

/-- The outgoing profile of a slot: its mark is released and its buffer retired (R77, R89). -/
def retireActive (v : View) (old : Nat) (oldBuffer : Option Nat) (s : State) : State :=
  if old = 0 then s
  else
    match oldBuffer with
    | some b => retireBuffer v b (setMark old .none s)
    | none => setMark old .none s

/-- The READY buffer of a slot. -/
def ViewSlot.readyBuffer (x : ViewSlot) : Nat := if x.buffer0.state = .ready then 0 else 1

/-- Adoption of a pending PROFILE with a READY build (R77 (1), R79). -/
def adopt (v : View) (sel : Nat) (s : State) : State :=
  let x := s.view v
  let b := x.readyBuffer
  viewReady v sel
    (retireActive v x.active x.activeBuffer
      (setMark sel (activeMark v)
        (modifyBuffer v b (fun m => { m with state := .active })
          (s.setView v { x with active := sel, activeBuffer := some b, pending := .absent }))))

/-- The slot becomes null: mark released, buffer retired, pending change absent, VIEW READY with selector 0
(R76 (3), R77 (3), R79). -/
def makeNull (v : View) (s : State) : State :=
  let x := s.view v
  viewReady v 0
    (retireActive v x.active x.activeBuffer
      (s.setView v { x with active := 0, activeBuffer := none, pending := .absent }))

/-- A slot acts on its pending change: at a frame start (R77) and at Enter Setup (R78). -/
def actOnPending (v : View) (s : State) : State :=
  match (s.view v).pending with
  | .profile sel .ready => adopt v sel s
  | .unbind => makeNull v s
  | _ => s

/-- Both slots act on their pending changes, slot A before slot B (the order is the model's choice, log 43). -/
def adoptViews (s : State) : State := actOnPending .b (actOnPending .a s)

/-- The copy of profile fields for warp entries (Table 6-1). -/
def Profile.copy (p : Profile) : ProfileCopy := ⟨p.width, p.height, p.scx, p.scy, p.radius, p.fill, p.format⟩

/-- What is noted for one view of a view set: none for a null slot (R10 (3), R77, R98). -/
def State.viewNote (s : State) (v : View) : Option ViewNote :=
  if (s.view v).active = 0 then none
  else some ⟨v, (s.view v).active, (s.view v).activeBuffer.getD 0, (s.profile (s.view v).active).copy⟩

/-- The view set with its notes, view A before view B. -/
def State.viewNotes (s : State) : List ViewNote := (s.viewNote .a).toList ++ (s.viewNote .b).toList

/-- Frame uses begin on the noted buffers (R84 (1)). -/
def addFrameUses (notes : List ViewNote) (s : State) : State := notes.foldl (fun t n => addUse n.view n.buffer t) s

/-- Frame uses end on the noted buffers (R84 (1)). -/
def dropFrameUses (notes : List ViewNote) (s : State) : State := notes.foldl (fun t n => dropUse n.view n.buffer t) s

end Sys2Proof.Machine
end

