-- ==== Sys2Proof/Machine/Engine.lean ====
section
/-! DEFINITION. The Warp Engine's shared operations: starting a warp, placing its records, ending an entry
(R101 to R104, R110 to R112). -/

namespace Sys2Proof.Machine

/-- FRAME BEGIN record (Table 10-1). -/
def frameBeginRecord (e : WarpEntry) (skip : Nat) : Record :=
  ⟨0xE0, 0, u8 e.view.code ++ u8 e.purpose.code ++ u16 e.tag ++ u8 e.selector ++ u8 e.copy.width ++ u8 e.copy.height ++
    u8 e.copy.format.code ++ u8 e.record.index ++ u16 skip ++ u8 e.record.trip.code ++ u8 e.record.ring.code⟩

/-- FRAME END record (Table 10-1). -/
def frameEndRecord (o : OwedEnd) : Record :=
  ⟨0xE2, 0, u8 o.view.code ++ u16 o.tag ++ u8 (if o.complete then 0 else 1) ++ u16 o.count⟩

/-- The image queue has a free place (R110). -/
def State.imageRoom (s : State) : Bool := decide (s.tether.images.length < Config.imagePlaces)

/-- Place an image record (R110). -/
def pushImage (r : Record) (s : State) : State := { s with tether := s.tether.pushImage r }

/-- What an entry end does outside the queue: the slot's count and the buffer's use fall by one (R104 (2) and (3)). -/
def entryEnd (e : WarpEntry) (s : State) : State := dropUse e.view e.buffer (releaseSlotUse e.slot s)

/-- The tiles of an entry's output frame (R102). -/
def WarpEntry.tiles (e : WarpEntry) : Nat := e.copy.width * e.copy.height

/-- The current tile has been placed or discarded: the next tile begins, or after the last one the entry ends and a
FRAME END is owed with COMPLETE (R102, R103). -/
def tileDone (s : State) : State :=
  match s.warp.queue with
  | [] => s
  | e :: rest =>
    if s.warp.next + 1 < e.tiles then { s with warp.next := s.warp.next + 1, warp.corrupt := false, warp.waiting := .nothing }
    else
      entryEnd e { s with
        warp.queue := rest
        warp.engine := .closing
        warp.waiting := .nothing
        warp.corrupt := false
        warp.owed := some ⟨e.view, e.tag, true, s.warp.placed⟩ }

/-- A waiting FRAME BEGIN enters the image queue: it is built then, with the view's skip count, which becomes 0
(R101, R110). -/
def placeBegin (s : State) : State :=
  match s.warp.engine, s.warp.waiting, s.warp.queue with
  | .running, .frameBegin, e :: _ =>
    if s.warp.discarding = false ∧ s.imageRoom = true then
      pushImage (frameBeginRecord e (s.skip e.view)) ({ s with warp.waiting := .nothing }.setSkip e.view 0)
    else s
  | _, _, _ => s

/-- A waiting TILE record enters the image queue (R102, R110). -/
def placeTile (s : State) : State :=
  match s.warp.engine, s.warp.waiting with
  | .running, .tile r =>
    if s.warp.discarding = false ∧ s.imageRoom = true then
      tileDone (pushImage r { s with warp.placed := s.warp.placed + 1, warp.waiting := .nothing })
    else s
  | _, _ => s

/-- The owed FRAME END is discarded, or placed when a place is free, and the engine becomes IDLE (R103, R111). -/
def placeEnd (s : State) : State :=
  match s.warp.engine, s.warp.owed with
  | .closing, some o =>
    if s.warp.discarding = true then { s with warp.engine := .idle, warp.owed := none }
    else if s.imageRoom = true then pushImage (frameEndRecord o) { s with warp.engine := .idle, warp.owed := none }
    else s
  | _, _ => s

/-- The idle engine takes the head of the queue. With the link not UP the FRAME BEGIN is discarded, the discarding mark
set, and a LIVE entry's frame counted as skipped (R101, R111). -/
def startWarp (s : State) : State :=
  match s.warp.engine, s.warp.queue with
  | .idle, e :: _ =>
    if s.tether.link = .up then
      { s with warp.engine := .running, warp.waiting := .frameBegin, warp.next := 0, warp.placed := 0,
               warp.corrupt := false, warp.discarding := false }
    else
      let t : State := { s with warp.engine := .running, warp.waiting := .nothing, warp.next := 0, warp.placed := 0,
                                warp.corrupt := false, warp.discarding := true }
      if e.purpose = .live then countSkip e.view t else t
  | _, _ => s

/-- Everything of the Warp Engine that comes about in one event without a further tile being formed: the waiting record
is placed, a finished warp closes, the next one starts (R101, R103, R110). -/
def pumpWarp (s : State) : State := placeBegin (startWarp (placeEnd (placeTile (placeBegin s))))

/-- The link leaves UP while a warp runs: its discarding mark is set, a LIVE frame still running is counted, and a waiting
record or an owed FRAME END is discarded (R111, R112). -/
def warpLinkLost (s : State) : State :=
  match s.warp.engine, s.warp.queue with
  | .running, e :: _ =>
    let t : State := { s with warp.discarding := true, warp.waiting := .nothing }
    let u := if e.purpose = .live ∧ s.warp.discarding = false then countSkip e.view t else t
    match s.warp.waiting with
    | .tile _ => pumpWarp (tileDone u)
    | _ => pumpWarp u
  | .running, [] => pumpWarp { s with warp.discarding := true }
  | .closing, _ => pumpWarp { s with warp.discarding := true }
  | .idle, _ => pumpWarp s

/-- The warp entry of a note, for a frame slot (R13, R98). -/
def liveEntry (slot tag : Nat) (r : FrameRecord) (n : ViewNote) : WarpEntry :=
  ⟨.live, slot, tag, n.view, n.buffer, n.selector, n.copy, r⟩

/-- Append warp entries at the tail of the queue; the idle engine starts in the same event (R97, R101). -/
def appendEntries (l : List WarpEntry) (s : State) : State := pumpWarp { s with warp.queue := s.warp.queue ++ l }

end Sys2Proof.Machine
end

