-- ==== Sys2Proof/Machine/MapOps.lean ====
section
/-! DEFINITION. The Calibration Map Unit's shared operations: regions (R41), map writes (R27, R28, R40), links (R45, R50),
dark refresh (R49) and the deliveries of an acquisition (R51, R54 to R58). -/

namespace Sys2Proof.Machine

/-- Columns, and rows, of a map (Table 3-1). -/
def MapName.span : MapName → Nat
  | .dark => 32
  | .gain => 33

/-- Greatest entry of a map (Table 3-1). -/
def MapName.top : MapName → Nat
  | .dark => 1023
  | .gain => 4095

/-- The valid region a request names, none for another map name or an invalid region (R41). -/
def validRegion (r : RegionArg) : Option MapLink :=
  match MapName.ofCode r.map with
  | none => none
  | some m =>
    if 1 ≤ r.w ∧ 1 ≤ r.h ∧ r.x0 + r.w ≤ m.span ∧ r.y0 + r.h ≤ m.span ∧ r.w * r.h ≤ 256 then
      some ⟨m, r.x0, r.y0, r.w, r.h⟩
    else none

/-- The indices of a region's entries in row order (R41). -/
def MapLink.indices (r : MapLink) : List Nat :=
  (List.range r.h).flatMap fun j => (List.range r.w).map fun i => r.map.span * (r.y0 + j) + (r.x0 + i)

/-- The region holds entry (i, j). -/
def MapLink.holds (r : MapLink) (i j : Nat) : Bool :=
  decide (r.x0 ≤ i) && decide (i < r.x0 + r.w) && decide (r.y0 ≤ j) && decide (j < r.y0 + r.h)

/-- Two regions overlap: the same map and an entry in common (R41). -/
def MapLink.overlaps (a b : MapLink) : Bool :=
  a.map == b.map && decide (a.x0 < b.x0 + b.w) && decide (b.x0 < a.x0 + a.w) &&
  decide (a.y0 < b.y0 + b.h) && decide (b.y0 < a.y0 + a.h)

/-- A working map. -/
def State.workingMap (s : State) : MapName → List Nat
  | .dark => s.cal.dark
  | .gain => s.cal.gain

/-- Replace a working map by a write of the Calibration Map Unit: in RUN the map change pending mark is set, outside RUN
the in-use copy follows at once (R27, R28, R40). -/
def writeMap (m : MapName) (l : List Nat) (s : State) : State :=
  let t : State := match m with
    | .dark => { s with cal.dark := l }
    | .gain => { s with cal.gain := l }
  if s.mode = .run then { t with cond.changed := true }
  else
    match m with
    | .dark => { t with cond.dark := l }
    | .gain => { t with cond.gain := l }

/-- The entries of a region, in row order (R42). -/
def State.regionEntries (s : State) (r : MapLink) : List Nat := r.indices.map fun n => (s.workingMap r.map).getD n 0

/-- A map with values written at the given indices in turn. -/
def setEntries (l : List Nat) : List (Nat × Nat) → List Nat
  | [] => l
  | (n, v) :: rest => setEntries (l.set n v) rest

/-- A region write with saturation, and the links it breaks (R45, R46). -/
def writeRegion (r : MapLink) (vals : List Nat) (s : State) : State :=
  breakLinks (fun l => l.overlaps r)
    (writeMap r.map (setEntries (s.workingMap r.map) (r.indices.zip (vals.map (min r.map.top)))) s)

/-- The number of entries that are saturated (R46). -/
def saturatedCount (m : MapName) (vals : List Nat) : Nat := vals.countP fun v => decide (m.top < v)

/-- The refreshed value of one zone (R49). -/
def refreshZone (w d sum : Nat) : Nat :=
  let m := min 1023 (sum / 1024)
  if w = 0 then m else (d * (2 ^ w - 1) + m + 2 ^ (w - 1)) / 2 ^ w

/-- The dark refresh of every zone from the values held before the event (R49). -/
def refreshedMap (w : Nat) (dark sums : List Nat) : List Nat := dark.mapIdx fun z d => refreshZone w d (sums.getD z 0)

/-- Some zone of the link changes its value (R50). -/
def MapLink.touchedBy (r : MapLink) (old new : List Nat) : Bool :=
  r.map == .dark && r.indices.any fun n => old.getD n 0 != new.getD n 0

/-- The dark refresh (R49, R50): only a changed zone counts as a write. -/
def darkRefresh (sums : List Nat) (s : State) : State :=
  let new := refreshedMap s.cal.shift s.cal.dark sums
  if s.cal.refresh = true ∧ new ≠ s.cal.dark then
    breakLinks (fun l => l.touchedBy s.cal.dark new) (writeMap .dark new s)
  else s

/-- The dark map that a dark acquisition forms (R56). -/
def acquiredDark (frames : Nat) (totals : List Nat) : List Nat := totals.map fun t => min 1023 (t / (1024 * frames))

/-- The zone columns, or rows, on either side of node column, or row, `i`, within 0 to 31 (R57 (2)). -/
def zonesBeside (i : Nat) : List Nat := if i = 0 then [0] else if 32 ≤ i then [31] else [i - 1, i]

/-- The zones that touch node (i, j) (R57 (2)). -/
def touchingZones (i j : Nat) : List (Nat × Nat) :=
  (zonesBeside i).flatMap fun a => (zonesBeside j).map fun b => (a, b)

/-- The mean of the zones that touch node (i, j), rounded down (R57 (1) and (2)). -/
def nodeMean (frames : Nat) (totals : List Nat) (i j : Nat) : Nat :=
  (((touchingZones i j).map fun z => totals.getD (32 * z.2 + z.1) 0 / (1024 * frames)).sum) / (touchingZones i j).length

/-- The gain that brings a node mean to the target (R57 (3)). -/
def gainFor (target m : Nat) : Nat := if m = 0 then 4095 else min 4095 ((target * 1024 + m / 2) / m)

/-- The gain map that a flat-field acquisition forms (R57). -/
def acquiredGain (frames target : Nat) (totals : List Nat) : List Nat :=
  (List.range 33).flatMap fun j => (List.range 33).map fun i => gainFor target (nodeMean frames totals i j)

/-- The map an acquisition writes. -/
def Acquisition.map (a : Acquisition) : MapName :=
  match a.kind with
  | .dark => .dark
  | .flat => .gain

/-- The values an acquisition writes at its completion (R56, R57). -/
def Acquisition.result (a : Acquisition) : List Nat :=
  match a.kind with
  | .dark => acquiredDark a.frames a.totals
  | .flat => acquiredGain a.frames a.target a.totals

/-- The acquisition with one delivery counted (R54, R55). -/
def Acquisition.count (a : Acquisition) (sums : List Nat) : Acquisition :=
  { a with taken := a.taken + 1, totals := List.zipWith (· + ·) a.totals sums }

/-- A delivery of zone sums marked with the kind and number of an acquisition: counted when the mark names the one in
flight; at the last one the map is written whole, the links on it break, and the acquisition ends COMPLETE (R51, R54,
R55, R58). -/
def deliver (mark : Option (AcqKind × Nat)) (sums : List Nat) (s : State) : State :=
  match s.cal.acq with
  | none => s
  | some a =>
    if mark = some (a.kind, a.number) then
      if (a.count sums).taken < a.frames then { s with cal.acq := some (a.count sums) }
      else
        endAcquisition .complete
          (breakLinks (fun l => l.map == a.map)
            (writeMap a.map (a.count sums).result { s with cal.acq := some (a.count sums) }))
    else s

/-- The frame counts an acquisition may have (R52). -/
def frameCounts : List Nat := [1, 2, 4, 8, 16, 32, 64]

/-- An accepted start: the counter rises, wrapping from 255 to 0, and the context becomes present (R51 to R53). -/
def startAcquisition (k : AcqKind) (frames target : Nat) (s : State) : State :=
  { s with
    cal.counter := (s.cal.counter + 1) % 256
    cal.acq := some ⟨k, frames, 0, (s.cal.counter + 1) % 256, target, List.replicate 1024 0⟩
    ring.flatHold := if k = .flat then true else s.ring.flatHold }

end Sys2Proof.Machine
end

