-- ==== Sys2Proof/Machine/Sampling.lean ====
section
/-! DEFINITION. The Drive Supervisor's work at a lit exposure end: the sample set and its check (R139, R141), the open test
(R142), the over-limit count (R144) and the trips (R145, R146). -/

namespace Sys2Proof.Machine

/-- The cause of an over-limit sample set: the lowest channel above its own limit, else TOTAL (12) when only the sum is
over; none for a set within limits (R141). -/
def overCause (channels : List Channel) (total : Nat) (samples : List Nat) : Option Nat :=
  match (List.range samples.length).find? fun k => decide ((channels.getD k Channel.atReset).limit < samples.getD k 0) with
  | some k => some k
  | none => if total < samples.sum then some 12 else none

/-- A channel is found open: enabled NORMAL, its code at least 64, its sample below the threshold (R142). -/
def foundOpen (c : Channel) (code sample openLevel : Nat) : Bool :=
  c.usable && decide (64 ≤ code) && decide (sample < openLevel)

/-- The channels a sample set finds open, in order of increasing number (R142). -/
def openChannels (r : Ring) (openLevel : Nat) (samples : List Nat) : List Nat :=
  (List.range samples.length).filter fun k =>
    foundOpen (r.channels.getD k Channel.atReset) (r.codes.getD k 0) (samples.getD k 0) openLevel

/-- Report one open channel and raise CHANNEL_OPEN (R142). -/
def reportOpen (s : State) (k : Nat) : State := raise .channelOpen (openReport k s)

/-- The over-limit count after a set (R144). -/
def countAfter (exceeded : Bool) (count offCount : Nat) : Nat :=
  if exceeded = true then (if count < offCount then count + 1 else offCount) else 0

/-- A dim trip (R145). -/
def dimTrip (tag cause : Nat) (samples : List Nat) (s : State) : State :=
  raise .ringDimTrip
    (ringDimTrip { s with sup.level := .one, sup.dimPart := some ⟨tag, cause, samples⟩ })

/-- An off trip (R146). -/
def offTrip (tag cause : Nat) (s : State) : State :=
  raise .ringOffTrip (ringOffTrip { s with sup.level := .two, sup.offPart := some ⟨tag, cause⟩ })

/-- The trips that the update of the count brings (R145, R146): the dim trip when the count reaches N1 in LIT, then the off
trip when it reaches N2. -/
def tripAfter (tag cause : Nat) (samples : List Nat) (before : Nat) (s : State) : State :=
  if before < s.sup.count then
    let t := if s.sup.count = s.sup.dimCount ∧ s.sup.ring = .lit then dimTrip tag cause samples s else s
    if s.sup.count = s.sup.offCount then offTrip tag cause t else t
  else s

/-- The sample set of a lit exposure end in LIT or DIM, its record and its checks (R139, R141 to R146). -/
def takeSamples (tag : Nat) (samples : List Nat) (s : State) : State :=
  let cause := overCause s.ring.channels s.sup.total samples
  let opens := openChannels s.ring s.sup.openLevel samples
  let t : State := { s with sup.sample := some ⟨tag, samples, s.ring.codes, s.sup.ring, cause⟩ }
  let u := opens.foldl reportOpen t
  tripAfter tag (cause.getD 12) samples s.sup.count
    { u with sup.count := countAfter cause.isSome s.sup.count s.sup.offCount }

/-- The end of an exposure at the Drive Supervisor: a sample set for a lit exposure while its ring state copy is LIT or DIM
(R139). -/
def superviseExposureEnd (lit : Bool) (tag : Nat) (samples : List Nat) (s : State) : State :=
  if lit = true ∧ (s.sup.ring = .lit ∨ s.sup.ring = .dim) then takeSamples tag samples s else s

end Sys2Proof.Machine
end

