-- ==== Sys2Proof/Machine/Statistics.lean ====
section
/-! DEFINITION. The Pixel Conditioner's arithmetic (R24 to R26), the accumulators (R31) and the sector statistics record
(R32). -/

namespace Sys2Proof.Machine

/-- The zone index of pixel (x, y): 32·(y div 32) + x div 32 (section 2.1, R30). -/
def zoneOf (x y : Nat) : Nat := 32 * (y / 32) + x / 32

/-- Dark subtraction (R24): a negative difference is saturated to 0. -/
def darkSubtract (p d : Nat) : Nat := p - d

/-- A gain node (i, j) of a gain map of 33 columns (section 2.1). -/
def gainNode (gain : List Nat) (i j : Nat) : Nat := gain.getD (33 * j + i) 0

/-- Gain interpolation (R25). -/
def interpolateGain (gain : List Nat) (x y : Nat) : Nat :=
  let i := x / 32
  let j := y / 32
  let fx := x % 32
  let fy := y % 32
  let top := gainNode gain i j * (32 - fx) + gainNode gain (i + 1) j * fx
  let bottom := gainNode gain i (j + 1) * (32 - fx) + gainNode gain (i + 1) (j + 1) * fx
  (top * (32 - fy) + bottom * fy + 512) / 1024

/-- Applying the gain (R26): rounded to nearest, halves up, saturated to 4095. -/
def applyGain (c g : Nat) : Nat := min 4095 ((c * g + 512) / 1024)

/-- What one pixel of a lit frame yields: c and v (R24 to R26). -/
def conditionPixel (dark gain : List Nat) (x y p : Nat) : Nat × Nat :=
  let c := darkSubtract p (dark.getD (zoneOf x y) 0)
  (c, applyGain c (interpolateGain gain x y))

/-- The pairs (c, v) of one row, in order of increasing x (R23). -/
def conditionRow (dark gain : List Nat) (y : Nat) (row : List Nat) : List (Nat × Nat) :=
  row.zipIdx.map fun p => conditionPixel dark gain p.2 y p.1

/-- Sum of the values of a row whose column satisfies a test. -/
def rowSum (row : List Nat) (keep : Nat → Bool) : Nat :=
  ((row.zipIdx.filter fun p => keep p.2).map (·.1)).sum

/-- The per-zone sums of one row of values added to 1024 zone sums (R12, R31). -/
def addZoneSums (y : Nat) (row sums : List Nat) : List Nat :=
  sums.mapIdx fun z n => if z / 32 = y / 32 then n + rowSum row (fun x => x / 32 == z % 32) else n

/-- The sector of a pixel: 0 to 11, or 12 for NONE (R29). -/
def sectorOf (sectorMap : List Nat) (x y : Nat) : Nat := sectorMap.getD (zoneOf x y) 12

/-- Empty accumulators (R31). -/
def Accumulators.zero : Accumulators :=
  ⟨List.replicate 12 0, List.replicate 12 0, List.replicate 12 0, List.replicate 1024 0⟩

/-- The accumulators after one conditioned row (R31). -/
def Accumulators.addRow (a : Accumulators) (sectorMap : List Nat) (glareLevel y : Nat) (row : List (Nat × Nat)) :
    Accumulators where
  sums := a.sums.mapIdx fun k n => n + rowSum (row.map (·.2)) (fun x => sectorOf sectorMap x y == k)
  counts := a.counts.mapIdx fun k n => n + rowSum (row.map fun _ => 1) (fun x => sectorOf sectorMap x y == k)
  hots := a.hots.mapIdx fun k n =>
    n + rowSum (row.map fun p => if glareLevel ≤ p.2 then 1 else 0) (fun x => sectorOf sectorMap x y == k)
  zoneC := addZoneSums y (row.map (·.1)) a.zoneC

/-- The twelve zone counts of a sector map (R29). -/
def countZones (sectorMap : List Nat) : List Nat := (List.range 12).map fun k => sectorMap.count k

/-- A sector mean (R32 (1)): 0 for a sector without zones. -/
def sectorMean (zones sum count : Nat) : Nat := if zones = 0 then 0 else sum / count

/-- The measured hot set: hot count at or above the threshold and sector-mask bit set (R32 (2)). -/
def measuredHot (hots : List Nat) (threshold mask : Nat) : Nat :=
  maskOf 12 fun k => decide (threshold ≤ hots.getD k 0) && mask.testBit k

/-- The hot pattern: measured hot or forced hot (R32 (3)). -/
def hotPattern (measured forced : Nat) : Nat := maskOf 12 fun k => measured.testBit k || forced.testBit k

/-- The sector statistics record of a frame (R32, Table 2-4). -/
def formStatistics (c : Conditioner) (a : Accumulators) (mask forced tag : Nat) : SectorStats :=
  let measured := measuredHot a.hots c.hotThreshold mask
  { tag := tag
    zoneCounts := c.zoneCounts
    means := (List.range 12).map fun k => sectorMean (c.zoneCounts.getD k 0) (a.sums.getD k 0) (a.counts.getD k 0)
    hots := a.hots
    measured := measured
    pattern := hotPattern measured forced }

end Sys2Proof.Machine
end

