-- ==== Sys2Proof/Machine/FrameEvents.lean ====
section
/-! DEFINITION. The events of a frame: frame start, missed frame, exposure end, rows, readout completion and sensor timeout
(chapter 1), with what the other blocks do in the same events. -/

namespace Sys2Proof.Machine

/-! ### Frame start -/

/-- The limit L in 10 µs for a period setting (R3). -/
def exposureLimit (period : Nat) : Nat := (period + 1) * 10 - 2000

/-- The largest index, not above the requested one, whose entry is at most the limit (R3). -/
def fittingIndex (table : List Nat) (requested limit : Nat) : Option Nat :=
  ((List.range (requested + 1)).filter fun i => decide (table.getD i 0 ≤ limit)).getLast?

/-- The index in effect and the exposure time (R3): when even entry 0 exceeds the limit, index 0 and the limit. -/
def exposureFor (table : List Nat) (requested limit : Nat) : Nat × Nat :=
  match fittingIndex table requested limit with
  | some i => (i, table.getD i 0)
  | none => (0, limit)

/-- Pending period, table and pattern are applied (R1, R2, R4); the position is left to the caller. -/
def Capture.applyPending (c : Capture) : Capture :=
  { c with
    period := c.pendingPeriod.getD c.period
    pendingPeriod := none
    table := c.pendingTable.getD c.table
    pendingTable := none
    pattern := c.pendingPattern.getD c.pattern
    pendingPattern := none }

/-- The pattern position after a frame start from the timer (R4). -/
def Capture.nextPosition (c : Capture) : Nat :=
  if c.pendingPattern.isSome then 0 else if c.position + 1 < c.pattern.length then c.position + 1 else 0

/-- The Capture Controller at a frame start from the period timer: tag, pending settings, position (R6, R10 (1), R11). -/
def Capture.advance (c : Capture) : Capture :=
  { c.applyPending with tag := (c.tag + 1) % 4096, position := c.nextPosition }

/-- The Capture Controller at the frame start of Enter Run: tag, position and skip counts 0 (R9). -/
def Capture.beginRun (c : Capture) : Capture :=
  { c.applyPending with tag := 0, position := 0, skipA := 0, skipB := 0 }

/-- The class of the frame (R10 (2)). -/
def State.classify (s : State) : FrameClass :=
  if s.cal.acq.any (fun a => a.kind == .dark) = true then .darkAcquisition
  else if s.capture.pattern.lit.testBit s.capture.position = true then .lit
  else .darkPattern

/-- The index in effect is formed, and the class of the frame start noted, with the kind and number of the acquisition in flight
(R3, R10, R51): at every frame start, one that makes a missed frame included. -/
def noteFrameStart (s : State) : State :=
  let e := exposureFor s.capture.table s.capture.requested (exposureLimit s.capture.period)
  { s with
    capture.index := e.1
    capture.exposure := e.2
    capture.latestClass := some s.classify
    capture.latestAcq := s.cal.acq.map fun a => (a.kind, a.number) }

/-- The lowest-numbered FREE slot (R10 (4)). -/
def State.firstFree (s : State) : Option Nat := (List.range 4).find? fun n => (s.slot n).state == .free

/-- A lit frame claims a slot: FILLING with the frame's tag; a pending next pin attaches to it (R10 (4)). -/
def claimSlot (n tag : Nat) (s : State) : State :=
  { modifySlot n (fun x => { x with state := .filling, tag := tag, pinned := s.nextPin, count := 0 }) s with
    nextPin := false }

/-- The in-use maps become copies of the working maps, and the mark is cleared (R27). -/
def latchMaps (s : State) : State :=
  { s with cond.dark := s.cal.dark, cond.gain := s.cal.gain, cond.changed := false }

/-- Count a frame as skipped for each noted view (R15). -/
def countSkips (notes : List ViewNote) (s : State) : State := notes.foldl (fun t n => countSkip n.view t) s

/-- The slot a frame claims: the lowest FREE one for a lit frame, none for a dark one (R10 (4)). -/
def State.claimable (s : State) (cls : FrameClass) : Option Nat := if cls = .lit then s.firstFree else none

/-- The exposure begins: EXPOSING with the frame's tag, class, acquisition mark, slot, view notes and frame record; a lit
exposure writes the exposure note (R10 (5), R51, R98, R121). -/
def beginExposure (cls : FrameClass) (slot : Option Nat) (notes : List ViewNote) (s : State) : State :=
  { s with
    capture.mode := .exposing
    capture.rows := 0
    capture.frame := some
      { tag := s.capture.tag
        cls := cls
        acq := s.capture.latestAcq
        slot := slot
        views := notes
        record := ⟨s.capture.index, s.ring.state, s.ring.trip⟩ }
    ring.note := if cls = .lit then some s.ring.state else s.ring.note }

/-- The slot of the frame start: claimed, or counted as skipped for a lit frame that finds none FREE (R10 (4), R15 (1)). -/
def claimOrSkip (cls : FrameClass) (notes : List ViewNote) (s : State) : State :=
  match s.claimable cls with
  | some n => claimSlot n s.capture.tag s
  | none => if cls = .lit then countSkips notes s else s

/-- A frame start that begins an exposure, after the Capture Controller's step (1): adoption, class, view set, map latch,
frame uses, slot, exposure (R10, R27, R77, R84, R98). -/
def exposeFrame (s : State) : State :=
  let t := latchMaps (noteFrameStart (adoptViews s))
  let cls := s.classify
  let notes := t.viewNotes
  beginExposure cls (t.claimable cls) notes (claimOrSkip cls notes (addFrameUses notes t))

/-- A missed frame, after the Capture Controller's step (1): adoption, class, and the skip counts of a lit one (R11, R15 (2),
R77). -/
def missFrame (s : State) : State :=
  let t := noteFrameStart (adoptViews s)
  if s.classify = .lit then countSkips t.viewNotes t else t

/-- The frame start taken at Enter Run (R9). -/
def firstFrameStart (s : State) : State := exposeFrame { s with capture := s.capture.beginRun }

/-- A frame start from the period timer: a missed frame while a readout is in flight (R10, R11). The timer does not run in
STOPPED, and a frame start cannot fall inside an exposure (log 3, log 15). -/
def timerFrameStart (s : State) : State :=
  match s.capture.mode with
  | .stopped => s
  | .exposing => s
  | .readout => missFrame { s with capture := s.capture.advance }
  | .waiting => exposeFrame { s with capture := s.capture.advance }

/-! ### Exposure end and rows -/

/-- The readout begins: accumulators at 0 for a lit frame, zone sums at 0 for a dark one (R12, R31). -/
def beginReadout (f : Frame) (s : State) : State :=
  if f.cls = .lit then
    { s with capture.mode := .readout, capture.rows := 0, cond.acc := some Accumulators.zero }
  else { s with capture.mode := .readout, capture.rows := 0, capture.zoneSums := List.replicate 1024 0 }

/-- The exposure end (R12): the Drive Supervisor is told, then the readout begins. -/
def endExposure (samples : List Nat) (s : State) : State :=
  match s.capture.mode, s.capture.frame with
  | .exposing, some f => beginReadout f (superviseExposureEnd (f.cls == .lit) f.tag samples s)
  | _, _ => s

/-- Write a row of conditioned pixels into a slot; its words are whole again (R20, R23, R26). -/
def storeRow (slot y : Nat) (row : List Nat) (s : State) : State :=
  let base := pixelPlace slot 0 y
  { s with
    frameStore := Memory.writeBlock 0 s.frameStore base row
    badWords := s.badWords.filter fun w => !(decide (base ≤ 4 * w) && decide (4 * w < base + row.length)) }

/-- A row of a lit frame: conditioned, stored if the frame has a slot, accumulated (R23, R31). -/
def litRow (f : Frame) (pixels : List Nat) (s : State) : State :=
  let y := s.capture.rows
  let row := conditionRow s.cond.dark s.cond.gain y pixels
  let t : State := match f.slot with
    | some n => storeRow n y (row.map Prod.snd) s
    | none => s
  { t with
    cond.acc := s.cond.acc.map fun a => a.addRow s.cond.sectorMap s.cond.glareLevel y row
    capture.rows := y + 1 }

/-- A row of a dark frame: its raw values join the zone sums (R12). -/
def darkRow (pixels : List Nat) (s : State) : State :=
  { s with capture.zoneSums := addZoneSums s.capture.rows pixels s.capture.zoneSums, capture.rows := s.capture.rows + 1 }

/-- A row from the sensor: it belongs to the frame in READOUT, and at any other time it is discarded (R12, R23). -/
def sensorRowArrives (pixels : List Nat) (s : State) : State :=
  match s.capture.mode, s.capture.frame with
  | .readout, some f =>
    if s.capture.rows < 1024 then (if f.cls = .lit then litRow f pixels s else darkRow pixels s) else s
  | _, _ => s

/-! ### Readout completion and sensor timeout -/

/-- The readout is over: WAITING, no frame (R13, R14, R16). -/
def endReadout (s : State) : State := { s with capture.mode := .waiting, capture.frame := none }

/-- The slot of a completed frame: HELD, at the tail of the held list, its count the number of views, with the frame
record (R13, R98). -/
def holdSlot (n : Nat) (f : Frame) (s : State) : State :=
  { modifySlot n (fun x => { x with state := .held, count := f.views.length, record := f.record }) s with
    held := s.held ++ [n] }

/-- A completed lit frame with a slot: the slot is HELD, and one live entry per view takes over the frame use; without a
view an unpinned slot is FREE at once (R8, R13, R84, R98). Without a slot the frame uses end. -/
def completeSlot (f : Frame) (s : State) : State :=
  match f.slot with
  | some n => appendEntries (f.views.map (liveEntry n f.tag f.record)) (freeIfDone n (holdSlot n f s))
  | none => dropFrameUses f.views s

/-- The statistics of a completed lit frame are formed and handed to the Ring Controller, then the zone c sums to the
Calibration Map Unit, and the record is kept (R32, R33; log 17). -/
def handOverStatistics (f : Frame) (s : State) : State :=
  match s.cond.acc with
  | none => s
  | some a =>
    let st := formStatistics s.cond a s.ring.balance.mask s.ring.balance.forced f.tag
    let t := deliver (f.acq.filter fun m => m.1 == .flat) a.zoneC (balanceHandOver st s)
    { t with cond.latest := some st, cond.acc := none }

/-- Readout completion of a lit frame (R13): all its rows have arrived (log 9). The notice of an acquisition that completes is
queued before the image records of the frame's warp (R170; log 13). -/
def completeLit (s : State) : State :=
  match s.capture.mode, s.capture.frame with
  | .readout, some f =>
    if f.cls = .lit ∧ s.capture.rows = 1024 then completeSlot f (handOverStatistics f (endReadout s)) else s
  | _, _ => s

/-- The zone sums of a dark frame go to dark refresh when marked PATTERN, and to the acquisition when marked ACQUISITION
(R14, R49, R51, R54). -/
def handOverZoneSums (f : Frame) (sums : List Nat) (s : State) : State :=
  match f.cls with
  | .darkPattern => darkRefresh sums s
  | .darkAcquisition => deliver (f.acq.filter fun m => m.1 == .dark) sums s
  | .lit => s

/-- Readout completion of a dark frame (R14, R84). -/
def completeDark (s : State) : State :=
  match s.capture.mode, s.capture.frame with
  | .readout, some f =>
    if f.cls ≠ .lit ∧ s.capture.rows = 1024 then
      handOverZoneSums f s.capture.zoneSums (dropFrameUses f.views (endReadout s))
    else s
  | _, _ => s

/-- The slot of an abandoned frame: FREE again, an attached next pin pending again, the frame counted for its view set
(R15 (3), R16 (3)). -/
def abandonSlot (f : Frame) (s : State) : State :=
  match f.slot with
  | some n =>
    countSkips f.views
      { modifySlot n (fun x => { x with state := .free, pinned := false }) s with
        nextPin := s.nextPin || (s.slot n).pinned }
  | none => s

/-- Sensor timeout (R16, R34, R84). -/
def sensorTimesOut (s : State) : State :=
  match s.capture.mode, s.capture.frame with
  | .readout, some f =>
    dropFrameUses f.views
      (abandonSlot f { endReadout (raise .sensorTimeout s) with cond.acc := none })
  | _, _ => s

end Sys2Proof.Machine
end

