-- ==== Sys2Proof/Machine/Capture.lean ====
section
/-! DEFINITION. Chapter 1: the requests of the Capture Controller and the Frame Store, and the frame events as commands. -/

namespace Sys2Proof.Machine

/-! ### Set Timing and Write Exposure Table -/

/-- A pattern that passes the checks of R4: length 1 to 16 with a lit position within it. -/
def patternAccepted (p : PatternArg) : Bool :=
  decide (1 ≤ p.length) && decide (p.length ≤ 16) && decide (p.lit % 2 ^ p.length ≠ 0)

/-- A period part applied (R1): clamped to 200, pending in RUN, at once otherwise. -/
def applyPeriod (v : Option Nat) (s : State) : State :=
  match v with
  | none => s
  | some n =>
    if s.mode = .run then { s with capture.pendingPeriod := some (max 200 n) }
    else { s with capture.period := max 200 n }

/-- A pattern part applied (R4). -/
def applyPattern (p : Option PatternArg) (s : State) : State :=
  match p with
  | none => s
  | some a =>
    if s.mode = .run then { s with capture.pendingPattern := some ⟨a.length, a.lit⟩ }
    else { s with capture.pattern := ⟨a.length, a.lit⟩, capture.position := 0 }

/-- An index part applied, at once in either mode (R3, R5). -/
def applyIndex (i : Option Nat) (s : State) : State :=
  match i with
  | none => s
  | some n => { s with capture.requested := n }

/-- The period setting that will be in effect (R5). -/
def State.comingPeriod (s : State) : Nat := s.capture.pendingPeriod.getD s.capture.period

/-- Set Timing (R5). A refusal is answered with the result code alone; R5 names the period and the index for the reply and
does not say for which result (the model's choice, log 47). -/
def setTimingOwner (period : Option Nat) (pattern : Option PatternArg) (index : Option Nat) (s : State) : Answer :=
  if index.any (fun i => decide (15 < i)) = true then refuse .outOfRange s
  else if pattern.any (fun p => !patternAccepted p) = true then refuse .outOfRange s
  else
    let t := applyIndex index (applyPattern pattern (applyPeriod period s))
    okWith (u16 t.comingPeriod ++ u8 t.capture.requested) t

/-- SET_TIMING (R5). -/
def execSetTiming (q : Req) (period : Option Nat) (pattern : Option PatternArg) (index : Option Nat) (s : State) :
    Host.Outcome State Fault Refusal :=
  ownedRequest q (.setTiming q period pattern index) (setTimingOwner period pattern index) s

/-- An exposure table that R2 accepts: no entry 0, each entry greater than the one before it. -/
def acceptedTable (l : List Nat) : Bool := l.all (fun n => decide (0 < n)) && decide (l.Pairwise (· < ·))

/-- Write Exposure Table (R2). -/
def writeExposureTableOwner (l : List Nat) (s : State) : Answer :=
  if acceptedTable l = true then
    okWith [] (if s.mode = .run then { s with capture.pendingTable := some l } else { s with capture.table := l })
  else refuse .outOfRange s

/-- WRITE_EXPOSURE_TABLE (R2). -/
def execWriteExposureTable (q : Req) (l : List Nat) (s : State) : Host.Outcome State Fault Refusal :=
  ownedRequest q (.writeExposureTable q l) (writeExposureTableOwner l) s

/-! ### Pins -/

/-- The FILLING slot. -/
def State.fillingSlot (s : State) : Option Nat := (List.range 4).find? fun n => (s.slot n).state == .filling

/-- The FILLING slot a next pin is attached to. -/
def State.attachedPin (s : State) : Option Nat := s.fillingSlot.filter fun n => (s.slot n).pinned

/-- The held slots that carry a tag, oldest first (R7). -/
def State.heldWithTag (s : State) (t : Nat) : List Nat := s.held.filter fun n => (s.slot n).tag == t

/-- The reply data of Pin Frame: the pinned slot, or the mark that the pin is pending, an absent part (R17; the coding is
the model's choice, log 18). -/
def pinData (slot : Option Nat) : List Byte := optionalPart u8 slot

/-- Pin Frame NEXT (R17 (1)). -/
def pinNext (s : State) : Answer :=
  if s.nextPin = true then okWith (pinData none) s
  else
    match s.attachedPin with
    | some n => okWith (pinData (some n)) s
    | none => if 2 ≤ s.pins then refuse .pinLimit s else okWith (pinData none) { s with nextPin := true }

/-- Pin Frame TAG t (R17 (2)). When every held slot with the tag is pinned, the reply names the oldest of them (the model's
choice, log 24). -/
def pinTag (t : Nat) (s : State) : Answer :=
  if 4095 < t then refuse .outOfRange s
  else
    match s.heldWithTag t with
    | [] => refuse .noFrame s
    | first :: rest =>
      match (first :: rest).find? fun n => !(s.slot n).pinned with
      | none => okWith (pinData (some first)) s
      | some n =>
        if 2 ≤ s.pins then refuse .pinLimit s
        else okWith (pinData (some n)) (modifySlot n (fun x => { x with pinned := true }) s)

/-- Pin Frame (R17). A refusal carries no slot (the model's choice, log 47). -/
def pinFrameOwner (target : FrameTarget) (s : State) : Answer :=
  match target with
  | .next => pinNext s
  | .tag t => pinTag t s
  | .other _ => refuse .outOfRange s

/-- PIN_FRAME (R17). -/
def execPinFrame (q : Req) (target : FrameTarget) (s : State) : Host.Outcome State Fault Refusal :=
  ownedRequest q (.pinFrame q target) (pinFrameOwner target) s

/-- Release Frame NEXT (R18 (1)). -/
def releaseNext (s : State) : Answer :=
  if s.nextPin = true then okWith [] { s with nextPin := false }
  else
    match s.attachedPin with
    | some n => okWith [] (modifySlot n (fun x => { x with pinned := false }) s)
    | none => refuse .noFrame s

/-- Release Frame TAG t (R18 (2)). -/
def releaseTag (t : Nat) (s : State) : Answer :=
  if 4095 < t then refuse .outOfRange s
  else
    match s.heldWithTag t with
    | [] => refuse .noFrame s
    | first :: rest =>
      match (first :: rest).find? fun n => (s.slot n).pinned with
      | none => okWith [] s
      | some n => okWith [] (freeIfDone n (modifySlot n (fun x => { x with pinned := false }) s))

/-- Release Frame (R18). -/
def releaseFrameOwner (target : FrameTarget) (s : State) : Answer :=
  match target with
  | .next => releaseNext s
  | .tag t => releaseTag t s
  | .other _ => refuse .outOfRange s

/-- RELEASE_FRAME (R18). -/
def execReleaseFrame (q : Req) (target : FrameTarget) (s : State) : Host.Outcome State Fault Refusal :=
  ownedRequest q (.releaseFrame q target) (releaseFrameOwner target) s

/-! ### Query Frames -/

/-- The tag reported for a slot: meaningless while FREE, hence a free value (Table 1-2; log 7). -/
def State.reportedTag (s : State) (n : Nat) : Nat :=
  if (s.slot n).state = .free then Config.freeSlotTag s.freeCount n % 4096 else (s.slot n).tag

/-- The reply data of Query Frames (R19). The class, which is none before the first frame start (Table 1-3), is a part with a
marker (the model's choice, log 18). -/
def queryFramesData (s : State) : List Byte :=
  u8 s.capture.mode.code ++ u16 s.capture.tag ++ optionalPart (fun c => u8 (FrameClass.code c)) s.capture.latestClass ++
  u16 s.capture.period ++ optionalPart u16 s.capture.pendingPeriod ++
  u8 s.capture.pattern.length ++ u16 s.capture.pattern.lit ++ u8 s.capture.position ++
  flag s.capture.pendingPattern.isSome ++
  u8 s.capture.requested ++ u8 s.capture.index ++
  flag s.capture.pendingTable.isSome ++
  u16 s.capture.skipA ++ u16 s.capture.skipB ++
  entries (fun n => u8 (s.slot n).state.code ++ u16 (s.reportedTag n) ++ flag (s.slot n).pinned ++ u8 (s.slot n).count)
    (List.range 4) ++
  entries u8 s.held ++
  flag s.nextPin

/-- Query Frames (R19): it changes nothing but the model's counter of free values. -/
def queryFramesOwner (s : State) : Answer := okWith (queryFramesData s) { s with freeCount := s.freeCount + 1 }

/-- QUERY_FRAMES (R19). -/
def execQueryFrames (q : Req) (s : State) : Host.Outcome State Fault Refusal :=
  ownedRequest q (.queryFrames q) queryFramesOwner s

/-! ### Frame events -/

/-- FRAME_START (R10, R11). -/
def execFrameStart (s : State) : Host.Outcome State Fault Refusal := asEvent .frameStart timerFrameStart s

/-- EXPOSURE_END (R12). -/
def execExposureEnd (samples : List Nat) (s : State) : Host.Outcome State Fault Refusal :=
  asEvent (.exposureEnd samples) (endExposure samples) s

/-- SENSOR_ROW (R23). -/
def execSensorRow (pixels : List Nat) (s : State) : Host.Outcome State Fault Refusal :=
  asEvent (.sensorRow pixels) (sensorRowArrives pixels) s

/-- READOUT_COMPLETION_LIT (R13). -/
def execReadoutCompletionLit (s : State) : Host.Outcome State Fault Refusal := asEvent .readoutCompletionLit completeLit s

/-- READOUT_COMPLETION_DARK (R14). -/
def execReadoutCompletionDark (s : State) : Host.Outcome State Fault Refusal :=
  asEvent .readoutCompletionDark completeDark s

/-- SENSOR_TIMEOUT (R16). -/
def execSensorTimeout (s : State) : Host.Outcome State Fault Refusal := asEvent .sensorTimeout sensorTimesOut s

end Sys2Proof.Machine
end

