-- ==== Sys2Proof/Machine/Conditioning.lean ====
section
/-! DEFINITION. Chapter 2: the requests of the Pixel Conditioner. -/

namespace Sys2Proof.Machine

/-- Write Sector Map (R29, R30). Entry 12 codes NONE (R167). -/
def writeSectorMapOwner (l : List Nat) (s : State) : Answer :=
  if s.mode = .run then refuse .refusedMode s
  else if l.all (fun k => decide (k ≤ 12)) = true then
    okWith (entries u16 (countZones l)) { s with cond.sectorMap := l, cond.zoneCounts := countZones l }
  else refuse .outOfRange s

/-- WRITE_SECTOR_MAP (R30). -/
def execWriteSectorMap (q : Req) (l : List Nat) (s : State) : Host.Outcome State Fault Refusal :=
  ownedRequest q (.writeSectorMap q l) (writeSectorMapOwner l) s

/-- Write Statistics Settings (R35). -/
def writeStatisticsSettingsOwner (glareLevel hotThreshold : Nat) (s : State) : Answer :=
  if s.mode = .run then refuse .refusedMode s
  else if 4095 < glareLevel ∨ hotThreshold = 0 then refuse .outOfRange s
  else okWith [] { s with cond.glareLevel := glareLevel, cond.hotThreshold := hotThreshold }

/-- WRITE_STATISTICS_SETTINGS (R35). -/
def execWriteStatisticsSettings (q : Req) (glareLevel hotThreshold : Nat) (s : State) :
    Host.Outcome State Fault Refusal :=
  ownedRequest q (.writeStatisticsSettings q glareLevel hotThreshold)
    (writeStatisticsSettingsOwner glareLevel hotThreshold) s

/-- A table with one segment of 256 entries replaced (R36, R130). -/
def replaceSegment {α : Type} (table : List α) (segment : Nat) (l : List α) : List α :=
  table.take (256 * segment) ++ l ++ table.drop (256 * segment + 256)

/-- A TONE8 entry is queued or running (R37 (3)). -/
def State.toneInUse (s : State) : Bool := s.warp.queue.any fun e => e.copy.format == .tone8

/-- Write Tone Segment (R37). -/
def writeToneSegmentOwner (segment : Nat) (l : List Nat) (s : State) : Answer :=
  if s.mode = .run then refuse .refusedMode s
  else if 15 < segment then refuse .outOfRange s
  else if s.toneInUse = true then refuse .tableBusy s
  else okWith [] { s with cond.tone := replaceSegment s.cond.tone segment l }

/-- WRITE_TONE_SEGMENT (R37). -/
def execWriteToneSegment (q : Req) (segment : Nat) (l : List Nat) (s : State) : Host.Outcome State Fault Refusal :=
  ownedRequest q (.writeToneSegment q segment l) (writeToneSegmentOwner segment l) s

/-- A sector statistics record in a reply (Table 2-4). -/
def statsData (r : SectorStats) : List Byte :=
  u16 r.tag ++ entries u16 r.zoneCounts ++ entries u16 r.means ++ entries u32 r.hots ++ u16 r.measured ++ u16 r.pattern

/-- The reply data of Query Statistics (R38). -/
def queryStatisticsData (s : State) : List Byte :=
  optionalPart statsData s.cond.latest ++ u16 s.cond.glareLevel ++ u16 s.cond.hotThreshold ++
  entries u16 s.cond.zoneCounts ++ flag s.cond.changed

/-- Query Statistics (R38). -/
def queryStatisticsOwner (s : State) : Answer := okWith (queryStatisticsData s) s

/-- QUERY_STATISTICS (R38). -/
def execQueryStatistics (q : Req) (s : State) : Host.Outcome State Fault Refusal :=
  ownedRequest q (.queryStatistics q) queryStatisticsOwner s

end Sys2Proof.Machine
end

