-- ==== Sys2Proof/Machine/FaultRequests.lean ====
section
/-! DEFINITION. Chapter 9, the Fault Table: its requests (R160, R161, R163). -/

namespace Sys2Proof.Machine

/-! ### Query Faults -/

/-- An entry in a reply, with whether its condition stands (R163). Status codes SET 00 and CLEAR 01 hex follow the list
of R158 (R167), the other marks answer yes or no (log 18). -/
def faultData (e : FaultEntry) (stands : Bool) : List Byte :=
  u8 (if e.set then 0 else 1) ++ u8 e.severity.code ++ flag e.masked ++ optionalPart u16 e.tag ++ u16 e.count ++ flag stands

/-- The reply data of Query Faults (R163). -/
def queryFaultsData (s : State) : List Byte :=
  entries (fun k => faultData (s.faults.entry k) (s.conditionStands k)) FaultKind.all ++ flag s.faults.lineEnabled ++
  flag s.faults.line

/-- Query Faults (R163). -/
def queryFaultsOwner (s : State) : Answer := okWith (queryFaultsData s) s

/-- QUERY_FAULTS (R163). -/
def execQueryFaults (q : Req) (s : State) : Host.Outcome State Fault Refusal :=
  ownedRequest q (.queryFaults q) queryFaultsOwner s

/-! ### Clear Faults -/

/-- An entry that is cleared (R160). -/
def FaultEntry.cleared (e : FaultEntry) : FaultEntry := { e with set := false, tag := none, count := 0 }

/-- One listed kind: cleared when it is SET and its condition does not stand (R160). -/
def clearKind (s : State) (k : FaultKind) : State :=
  if (s.faults.entry k).set = true ∧ s.conditionStands k = false then
    { s with faults := s.faults.modify k FaultEntry.cleared }
  else s

/-- The listed kinds are cleared in turn and the FAULT line is formed anew (R160). -/
def clearKinds (l : List FaultKind) (s : State) : State :=
  { l.foldl clearKind s with faults := (l.foldl clearKind s).faults.formLine }

/-- The listed kinds that are still SET, in the order of Table 9-2 (R160). -/
def stillSet (l : List FaultKind) (s : State) : List FaultKind :=
  FaultKind.all.filter fun k => l.contains k && (s.faults.entry k).set

/-- Clear Faults (R160). -/
def clearFaultsOwner (kinds : List Nat) (s : State) : Answer :=
  match kinds.mapM FaultKind.ofCode with
  | none => refuse .outOfRange s
  | some l => okWith (entries (fun k => u8 (FaultKind.code k)) (stillSet l (clearKinds l s))) (clearKinds l s)

/-- CLEAR_FAULTS (R160). -/
def execClearFaults (q : Req) (kinds : List Nat) (s : State) : Host.Outcome State Fault Refusal :=
  ownedRequest q (.clearFaults q kinds) (clearFaultsOwner kinds) s

/-! ### Set Fault Policy -/

/-- The severity and mask of one kind, none outside their values (R161). -/
def policyOf (p : PolicyArg) : Option (Severity × Bool) :=
  match Severity.ofCode p.severity, boolOfCode p.mask with
  | some v, some m => some (v, m)
  | _, _ => none

/-- An entry under a policy: status, tag and count stay (R161). -/
def FaultEntry.withPolicy (e : FaultEntry) (p : Severity × Bool) : FaultEntry := { e with severity := p.1, masked := p.2 }

/-- The table under a policy, with its line formed anew (R161). -/
def FaultTable.withPolicy (t : FaultTable) (l : List (Severity × Bool)) (enable : Bool) : FaultTable :=
  FaultTable.formLine
    { t with entries := List.zipWith FaultEntry.withPolicy t.entries l, lineEnabled := enable }

/-- Set Fault Policy (R161). -/
def setFaultPolicyOwner (policy : List PolicyArg) (lineEnable : Nat) (s : State) : Answer :=
  match policy.mapM policyOf, boolOfCode lineEnable with
  | some l, some b => okWith [] { s with faults := s.faults.withPolicy l b }
  | _, _ => refuse .outOfRange s

/-- SET_FAULT_POLICY (R161). -/
def execSetFaultPolicy (q : Req) (policy : List PolicyArg) (lineEnable : Nat) (s : State) :
    Host.Outcome State Fault Refusal :=
  ownedRequest q (.setFaultPolicy q policy lineEnable) (setFaultPolicyOwner policy lineEnable) s

end Sys2Proof.Machine
end

