-- ==== Sys2Proof/Machine/HeadInputs.lean ====
section
/-! DEFINITION. Chapter 9, the Head Input Monitor: its transfers (R152, R155), the acceptance of its inputs (R153, R154),
silence and recovery (R156), and Query Head (R157). -/

namespace Sys2Proof.Machine

/-! ### Transfers -/

/-- A read is asked for: it starts on an idle master and otherwise becomes the pending read (R152). -/
def askRead (s : State) : State :=
  match s.head.transfer with
  | none => { s with head.transfer := some .read, head.retried := false }
  | some _ => { s with head.pendingRead := true }

/-- A transfer has ended: a pending write starts before a pending read, else the master is idle (R152). -/
def startNextTransfer (s : State) : State :=
  match s.head.pendingWrite with
  | some v => { s with head.transfer := some (.supplyWrite v), head.pendingWrite := none, head.retried := false }
  | none =>
    if s.head.pendingRead = true then
      { s with head.transfer := some .read, head.pendingRead := false, head.retried := false }
    else { s with head.transfer := none, head.retried := false }

/-- An input without candidate and timer. -/
def InputLine.dropped (l : InputLine) : InputLine := { l with candidate := none, timer := false }

/-- The monitor's own state as it becomes SILENT: candidates, timers and pending transfers are dropped, the accepted values
stay (R156 (3) and (4)). -/
def Head.silenced (h : Head) : Head :=
  { h with
    silent := true
    transfer := none
    retried := false
    pendingRead := false
    pendingWrite := none
    leak := h.leak.dropped
    warm := h.warm.dropped
    hot := h.hot.dropped
    present := h.present.dropped }

/-- The monitor becomes SILENT: EXPANDER_SILENT is raised and the silence is reported to the Ring Controller (R156). -/
def becomeSilent (s : State) : State := headLock .silent (raise .expanderSilent { s with head := s.head.silenced })

/-- The supply line value of a written value. -/
def SupplyLine.ofWrite (v : Bool) : SupplyLine := if v = true then .on else .off

/-- A failed write leaves the supply line UNKNOWN (R155; log 27). -/
def noteFailure (x : Transfer) (s : State) : State :=
  match x with
  | .read => s
  | _ => { s with head.supply := .unknown }

/-- A transfer is not acknowledged: while SILENT it has failed without a retry, and the monitor stays SILENT; else it is retried
once and fails after that (R152, R155, R156). -/
def transferRefused (x : Transfer) (s : State) : State :=
  if s.head.silent = true then startNextTransfer (noteFailure x s)
  else if s.head.retried = true then becomeSilent (noteFailure x s)
  else { s with head.retried := true }

/-! ### Acceptance -/

/-- An input line of the monitor. -/
def Head.line (h : Head) : HeadInput → InputLine
  | .leak => h.leak
  | .warm => h.warm
  | .hot => h.hot
  | .present => h.present

/-- Replace an input line. -/
def Head.setLine (h : Head) (i : HeadInput) (l : InputLine) : Head :=
  match i with
  | .leak => { h with leak := l }
  | .warm => { h with warm := l }
  | .hot => { h with hot := l }
  | .present => { h with present := l }

/-- The value a read gives an input (R153). -/
def readValue (v : InputValues) : HeadInput → Bool
  | .leak => v.leak
  | .warm => v.warm
  | .hot => v.hot
  | .present => v.present

/-- The accepted value of a read value: 1 is ACTIVE, 0 is INACTIVE (R153). -/
def Accepted.ofRead (v : Bool) : Accepted := if v = true then .active else .inactive

/-- The band is formed anew, and reported when it differs from the one last reported; one that becomes HOT raises HEAD_HOT
(R154 (2)). -/
def reportBand (s : State) : State :=
  match s.head.currentBand with
  | none => s
  | some b =>
    if s.head.band = some b then s
    else if b = .hot then raise .headHot (bandReport b { s with head.band := some b })
    else bandReport b { s with head.band := some b }

/-- What the monitor does when an input's accepted value has changed (R154). -/
def actOnAccepted (i : HeadInput) (v : Bool) (s : State) : State :=
  match i, v with
  | .leak, true => headLock .leak (raise .housingLeak s)
  | .leak, false => s
  | .warm, _ => reportBand s
  | .hot, _ => reportBand s
  | .present, true => presenceReport true s
  | .present, false => raise .ringAbsent (presenceReport false s)

/-- The confirmation time, in µs (R153). -/
def confirmationTime : Nat := 10000

/-- One input meets the value of a read that started at `started` (R153): a candidate is dropped, stamped, kept or
accepted. A running confirmation timer is only replaced (log 34). -/
def meetInput (i : HeadInput) (v : Bool) (started : Nat) (s : State) : State :=
  if (s.head.line i).accepted = Accepted.ofRead v then
    { s with head := s.head.setLine i { s.head.line i with candidate := none } }
  else
    match (s.head.line i).candidate with
    | none => { s with head := s.head.setLine i { s.head.line i with candidate := some (v, started), timer := true } }
    | some (c, stamp) =>
      if c = v then
        (if stamp + confirmationTime ≤ started then
          actOnAccepted i v
            { s with head := s.head.setLine i { s.head.line i with accepted := Accepted.ofRead v, candidate := none } }
        else s)
      else { s with head := s.head.setLine i { s.head.line i with candidate := some (v, started), timer := true } }

/-- The four inputs meet a read's values, in order of line number (R153; log 35). -/
def meetInputs (v : InputValues) (started : Nat) (s : State) : State :=
  meetInput .present v.present started
    (meetInput .hot v.hot started (meetInput .warm v.warm started (meetInput .leak v.leak started s)))

/-- The silence ends: a set-up write of the present demand starts, with a read to follow (R153 (4), R156). -/
def recover (s : State) : State :=
  { s with
    head.silent := false
    head.transfer := some (.setUp s.ring.demand)
    head.retried := false
    head.pendingRead := true }

/-- An acknowledged read ends (R153, R156). -/
def readEnds (v : InputValues) (started : Nat) (s : State) : State :=
  if s.head.silent = true then meetInputs v started (recover s)
  else startNextTransfer (meetInputs v started s)

/-! ### Events -/

/-- An input read ends; without a read in flight the event cannot occur (log 3). -/
def inputReadEnds (ack : Bool) (v : InputValues) (started : Nat) (s : State) : State :=
  if s.head.transfer = some .read then (if ack = true then readEnds v started s else transferRefused .read s) else s

/-- INPUT_READ_END (R153). -/
def execInputReadEnd (ack : Bool) (v : InputValues) (started : Nat) (s : State) : Host.Outcome State Fault Refusal :=
  asEvent (.inputReadEnd ack v started) (inputReadEnds ack v started) s

/-- A supply write ends (R155). -/
def supplyWriteEnds (ack : Bool) (s : State) : State :=
  match s.head.transfer with
  | some (.supplyWrite v) =>
    if ack = true then startNextTransfer { s with head.supply := SupplyLine.ofWrite v }
    else transferRefused (.supplyWrite v) s
  | _ => s

/-- SUPPLY_WRITE_END (R155). -/
def execSupplyWriteEnd (ack : Bool) (s : State) : Host.Outcome State Fault Refusal :=
  asEvent (.supplyWriteEnd ack) (supplyWriteEnds ack) s

/-- A set-up write ends: the line directions are set and line 8 carries the value (R151, R156). -/
def setUpWriteEnds (ack : Bool) (s : State) : State :=
  match s.head.transfer with
  | some (.setUp v) =>
    if ack = true then startNextTransfer { s with head.supply := SupplyLine.ofWrite v, head.linesSet := true }
    else transferRefused (.setUp v) s
  | _ => s

/-- SET_UP_WRITE_END (R151). -/
def execSetUpWriteEnd (ack : Bool) (s : State) : Host.Outcome State Fault Refusal :=
  asEvent (.setUpWriteEnd ack) (setUpWriteEnds ack) s

/-- The expander interrupt input takes a level; becoming active while SPEAKING asks for a read (R153 (1), R156). -/
def interruptTakes (active : Bool) (s : State) : State :=
  if active = true ∧ s.head.interrupt = false ∧ s.head.silent = false then askRead { s with head.interrupt := true }
  else { s with head.interrupt := active }

/-- EXPANDER_INTERRUPT (R153 (1)). -/
def execExpanderInterrupt (active : Bool) (s : State) : Host.Outcome State Fault Refusal :=
  asEvent (.expanderInterrupt active) (interruptTakes active) s

/-- POLL_TIMER_EXPIRY (R153 (2)): in every mode and in either silence state. -/
def execPollTimerExpiry (s : State) : Host.Outcome State Fault Refusal := asEvent .pollTimerExpiry askRead s

/-- A confirmation timer expires (R153 (3)); one that does not run cannot (log 3). -/
def confirmationExpires (i : HeadInput) (s : State) : State :=
  if (s.head.line i).timer = true then
    askRead { s with head := s.head.setLine i { s.head.line i with timer := false } }
  else s

/-- CONFIRMATION_TIMER_EXPIRY (R153 (3)). -/
def execConfirmationTimerExpiry (i : HeadInput) (s : State) : Host.Outcome State Fault Refusal :=
  asEvent (.confirmationTimerExpiry i) (confirmationExpires i) s

/-! ### Query Head -/

/-- An input in a reply: accepted value, and its candidate's value when present (R157 (1)). -/
def inputData (l : InputLine) : List Byte :=
  u8 l.accepted.code ++ optionalPart (fun c : Bool × Nat => u8 (Accepted.ofRead c.1).code) l.candidate

/-- The temperature band in a reply; UNKNOWN follows the three bands (R154, R157 (2); log 18). -/
def bandData (h : Head) : List Byte :=
  match h.currentBand with
  | some b => u8 b.code
  | none => u8 3

/-- The reply data of Query Head (R157). The transfer in flight and the pending write value are present-or-absent parts (R157 (4);
log 18). -/
def queryHeadData (h : Head) : List Byte :=
  inputData h.leak ++ inputData h.warm ++ inputData h.hot ++ inputData h.present ++
  bandData h ++ flag h.condition ++ flag h.silent ++
  optionalPart (fun x => u8 (Transfer.code x)) h.transfer ++ flag h.pendingRead ++ optionalPart flag h.pendingWrite ++
  u8 h.supply.code ++ flag h.interrupt

/-- Query Head (R157). -/
def queryHeadOwner (s : State) : Answer := okWith (queryHeadData s.head) s

/-- QUERY_HEAD (R157). -/
def execQueryHead (q : Req) (s : State) : Host.Outcome State Fault Refusal :=
  ownedRequest q (.queryHead q) queryHeadOwner s

end Sys2Proof.Machine
end

