-- ==== Sys2Proof/Machine/Illumination.lean ====
section
/-! DEFINITION. Chapter 7: the requests of the Ring Controller. -/

namespace Sys2Proof.Machine

/-! ### Channel table and ring budget -/

/-- The channel a Write Channel Table carries, none when a field or its order is refused (R116 (2) and (3)). -/
def channelOf (c : ChannelArg) : Option Channel :=
  match boolOfCode c.enabled with
  | none => none
  | some enabled =>
    if c.dmin ≤ 1023 ∧ c.dmax ≤ 1023 ∧ c.start ≤ 1023 ∧ c.limit ≤ 4095 ∧ c.dmin ≤ c.start ∧ c.start ≤ c.dmax then
      some ⟨enabled, c.dmin, c.dmax, c.start, c.limit, if enabled = true then .normal else .disabled⟩
    else none

/-- The Ring Controller with one channel replaced. -/
def Ring.withChannel (r : Ring) (k : Nat) (c : Channel) : Ring := { r with channels := r.channels.set k c }

/-- Write Channel Table (R116). -/
def writeChannelTableOwner (k : Nat) (a : ChannelArg) (s : State) : Answer :=
  if s.mode = .run then refuse .refusedMode s
  else if 11 < k then refuse .outOfRange s
  else
    match channelOf a with
    | none => refuse .outOfRange s
    | some c => okWith (u16 (s.ring.withChannel k c).enabledMinimumSum) { s with ring := s.ring.withChannel k c }

/-- WRITE_CHANNEL_TABLE (R116). -/
def execWriteChannelTable (q : Req) (k : Nat) (a : ChannelArg) (s : State) : Host.Outcome State Fault Refusal :=
  ownedRequest q (.writeChannelTable q k a) (writeChannelTableOwner k a) s

/-- Write Ring Budget (R117): the reply carries the effective budget that the new one gives. -/
def writeRingBudgetOwner (b : Nat) (s : State) : Answer :=
  if s.mode = .run then refuse .refusedMode s
  else if 12276 < b then refuse .outOfRange s
  else if b < s.ring.enabledMinimumSum then refuse .outOfRange s
  else okWith (u16 { s.ring with budget := b }.effective) { s with ring.budget := b }

/-- WRITE_RING_BUDGET (R117). -/
def execWriteRingBudget (q : Req) (b : Nat) (s : State) : Host.Outcome State Fault Refusal :=
  ownedRequest q (.writeRingBudget q b) (writeRingBudgetOwner b) s

/-! ### Balance settings and glare table -/

/-- The balance settings a request carries, none when one is out of its range (Table 7-3, R129 (2)). -/
def balanceOf (b : BalanceArg) : Option Balance :=
  match LoopMode.ofCode b.loopMode, boolOfCode b.autoExposure with
  | some m, some auto =>
    if b.target ≤ 4095 ∧ b.kp ≤ 4095 ∧ 1 ≤ b.slew ∧ b.slew ≤ 1023 ∧ b.deadband ≤ 4095 ∧ b.mask ≤ 4095 ∧
        b.margin ≤ 4095 ∧ b.forced ≤ 4095 then
      some ⟨m, b.target, b.kp, b.slew, b.deadband, b.mask, auto, b.margin, b.forced⟩
    else none
  | _, _ => none

/-- Write Balance Settings (R129). -/
def writeBalanceSettingsOwner (a : BalanceArg) (s : State) : Answer :=
  if s.mode = .run then refuse .refusedMode s
  else
    match balanceOf a with
    | none => refuse .outOfRange s
    | some b => okWith [] { s with ring.balance := b }

/-- WRITE_BALANCE_SETTINGS (R129). -/
def execWriteBalanceSettings (q : Req) (a : BalanceArg) (s : State) : Host.Outcome State Fault Refusal :=
  ownedRequest q (.writeBalanceSettings q a) (writeBalanceSettingsOwner a) s

/-- Write Glare Table (R130). -/
def writeGlareTableOwner (segment : Nat) (l : List Nat) (s : State) : Answer :=
  if s.mode = .run then refuse .refusedMode s
  else if 15 < segment then refuse .outOfRange s
  else
    match l.mapM Glare.ofCode with
    | none => refuse .outOfRange s
    | some g => okWith [] { s with ring.glare := replaceSegment s.ring.glare segment g }

/-- WRITE_GLARE_TABLE (R130). -/
def execWriteGlareTable (q : Req) (segment : Nat) (l : List Nat) (s : State) : Host.Outcome State Fault Refusal :=
  ownedRequest q (.writeGlareTable q segment l) (writeGlareTableOwner segment l) s

/-! ### Set Drive -/

/-- The proposed codes of Set Drive: saturated for enabled NORMAL channels, 0 for the others (R136). -/
def driveCodes (r : Ring) (codes : List Nat) : List Nat :=
  r.channels.mapIdx fun k c => if c.usable = true then clampNat c.dmin c.dmax (codes.getD k 0) else 0

/-- The reply data of Set Drive: the codes in effect and whether the budget step scaled (R136). -/
def setDriveData (codes : List Nat) (scaled : Bool) : List Byte := entries u16 codes ++ flag scaled

/-- Set Drive (R136). -/
def setDriveOwner (codes : List Nat) (s : State) : Answer :=
  if s.mode ≠ .run then refuse .refusedMode s
  else if s.ring.balance.loopMode = .loop then refuse .refusedMode s
  else if s.ring.state ≠ .lit then refuse .refusedMode s
  else if s.flatInFlight = true then refuse .opInProgress s
  else
    okWith
      (setDriveData (settleCodes (driveCodes s.ring codes) s).ring.codes (s.ring.scales (driveCodes s.ring codes)))
      (settleCodes (driveCodes s.ring codes) s)

/-- SET_DRIVE (R136). -/
def execSetDrive (q : Req) (codes : List Nat) (s : State) : Host.Outcome State Fault Refusal :=
  ownedRequest q (.setDrive q codes) (setDriveOwner codes) s

/-! ### Query Balance -/

/-- The lock causes as a set of the values OFF_TRIP, LEAK, EXPANDER_SILENT (R122, R167). -/
def lockData (l : LockCauses) : List Byte :=
  u8 ((if l.offTrip then 1 else 0) + (if l.leak then 2 else 0) + (if l.silent then 4 else 0))

/-- A channel entry in a reply (Table 7-1). -/
def channelData (c : Channel) : List Byte :=
  flag c.enabled ++ u16 c.dmin ++ u16 c.dmax ++ u16 c.start ++ u16 c.limit ++ u8 c.state.code

/-- The balance settings in a reply (Table 7-3). -/
def balanceData (b : Balance) : List Byte :=
  u8 b.loopMode.code ++ u16 b.target ++ u16 b.kp ++ u16 b.slew ++ u16 b.deadband ++ u16 b.mask ++ flag b.autoExposure ++
  u16 b.margin ++ u16 b.forced

/-- The outcome of a hand-over: NOT_LIT, MANUAL, HELD or APPLIED, and the three fields of APPLIED as a present-or-absent
part (R131, R167; log 18). -/
def outcomeData : UpdateOutcome → List Byte
  | .notLit => u8 0 ++ flag false
  | .manual => u8 1 ++ flag false
  | .held => u8 2 ++ flag false
  | .applied g scaled change => u8 3 ++ flag true ++ u8 g.code ++ flag scaled ++ i8 change

/-- The last update in a reply (R131). -/
def lastData (u : LastUpdate) : List Byte := u16 u.tag ++ outcomeData u.outcome

/-- The presence copy in a reply: ACTIVE 00 and INACTIVE 01 hex, in the order of R118 (R167). -/
def presenceData (b : Bool) : List Byte := u8 (if b = true then 0 else 1)

/-- The reply data of Query Balance (R137). -/
def queryBalanceData (s : State) : List Byte :=
  u8 s.ring.state.code ++ u8 s.ring.trip.code ++ lockData s.ring.causes ++ flag s.ring.demand ++
  u8 s.ring.band.code ++ flag s.ring.bandReported ++ presenceData s.ring.presence ++ flag s.ring.presenceReported ++
  u16 s.ring.budget ++ u16 s.ring.minimumSum ++ u16 s.ring.effective ++
  entries u16 s.ring.codes ++ u16 s.ring.codes.sum ++
  entries channelData s.ring.channels ++ balanceData s.ring.balance ++ flag s.ring.flatHold ++
  optionalPart lastData s.ring.last

/-- Query Balance (R137). -/
def queryBalanceOwner (s : State) : Answer := okWith (queryBalanceData s) s

/-- QUERY_BALANCE (R137). -/
def execQueryBalance (q : Req) (s : State) : Host.Outcome State Fault Refusal :=
  ownedRequest q (.queryBalance q) queryBalanceOwner s

end Sys2Proof.Machine
end

