-- ==== Sys2Proof/Machine/Maps.lean ====
section
/-! DEFINITION. Chapter 3: the requests of the Calibration Map Unit. -/

namespace Sys2Proof.Machine

/-- The reply data of a map read: map, region and entries (R42). -/
def regionData (r : MapLink) (s : State) : List Byte :=
  u8 r.map.code ++ u8 r.x0 ++ u8 r.y0 ++ u8 r.w ++ u8 r.h ++ entries u16 (s.regionEntries r)

/-- Read Map Region (R42). -/
def readMapRegionOwner (a : RegionArg) (s : State) : Answer :=
  match validRegion a with
  | none => refuse .outOfRange s
  | some r => okWith (regionData r s) s

/-- READ_MAP_REGION (R42). -/
def execReadMapRegion (q : Req) (a : RegionArg) (s : State) : Host.Outcome State Fault Refusal :=
  ownedRequest q (.readMapRegion q a) (readMapRegionOwner a) s

/-- Read Map Region Linked: the port's link is set to the region (R43). The reply carries the map and the region before the
entries, as R42's reply does; R43 names only the entries (the model's choice, log 18). -/
def readMapRegionLinkedOwner (p : Port) (a : RegionArg) (s : State) : Answer :=
  match validRegion a with
  | none => refuse .outOfRange s
  | some r => okWith (regionData r s) (s.setMapLink p (some r))

/-- READ_MAP_REGION_LINKED (R43). -/
def execReadMapRegionLinked (q : Req) (a : RegionArg) (s : State) : Host.Outcome State Fault Refusal :=
  ownedRequest q (.readMapRegionLinked q a) (readMapRegionLinkedOwner q.port a) s

/-- Write Map Region (R46). -/
def writeMapRegionOwner (a : RegionArg) (vals : List Nat) (s : State) : Answer :=
  if s.mode = .run then refuse .refusedMode s
  else
    match validRegion a with
    | none => refuse .outOfRange s
    | some r => okWith (u16 (saturatedCount r.map vals)) (writeRegion r vals s)

/-- WRITE_MAP_REGION (R46). -/
def execWriteMapRegion (q : Req) (a : RegionArg) (vals : List Nat) (s : State) : Host.Outcome State Fault Refusal :=
  ownedRequest q (.writeMapRegion q a vals) (writeMapRegionOwner a vals) s

/-- Write Map Region Conditional: the port's link is absent afterwards in any case (R47). -/
def writeMapRegionConditionalOwner (p : Port) (a : RegionArg) (vals : List Nat) (s : State) : Answer :=
  match validRegion a with
  | none => refuse .outOfRange (s.setMapLink p none)
  | some r =>
    if s.mapLink p = some r then
      okWith (u16 (saturatedCount r.map vals)) (writeRegion r vals (s.setMapLink p none))
    else refuse .linkBroken (s.setMapLink p none)

/-- WRITE_MAP_REGION_CONDITIONAL (R47). -/
def execWriteMapRegionConditional (q : Req) (a : RegionArg) (vals : List Nat) (s : State) :
    Host.Outcome State Fault Refusal :=
  ownedRequest q (.writeMapRegionConditional q a vals) (writeMapRegionConditionalOwner q.port a vals) s

/-- Set Dark Refresh (R48). -/
def setDarkRefreshOwner (enable shift : Nat) (s : State) : Answer :=
  match boolOfCode enable with
  | none => refuse .outOfRange s
  | some b => if 7 < shift then refuse .outOfRange s else okWith [] { s with cal.refresh := b, cal.shift := shift }

/-- SET_DARK_REFRESH (R48). -/
def execSetDarkRefresh (q : Req) (enable shift : Nat) (s : State) : Host.Outcome State Fault Refusal :=
  ownedRequest q (.setDarkRefresh q enable shift) (setDarkRefreshOwner enable shift) s

/-- Start Dark Acquisition (R52). -/
def startDarkAcquisitionOwner (n : Nat) (s : State) : Answer :=
  if s.mode ≠ .run then refuse .refusedMode s
  else if s.cal.acq.isSome = true then refuse .opInProgress s
  else if frameCounts.contains n = true then acceptedWith [] (startAcquisition .dark n 0 s)
  else refuse .outOfRange s

/-- START_DARK_ACQUISITION (R52). -/
def execStartDarkAcquisition (q : Req) (n : Nat) (s : State) : Host.Outcome State Fault Refusal :=
  ownedRequest q (.startDarkAcquisition q n) (startDarkAcquisitionOwner n) s

/-- Start Flat-Field Acquisition (R53). -/
def startFlatFieldAcquisitionOwner (n target : Nat) (s : State) : Answer :=
  if s.mode ≠ .run then refuse .refusedMode s
  else if s.cal.acq.isSome = true then refuse .opInProgress s
  else if frameCounts.contains n = true ∧ 1 ≤ target ∧ target ≤ 4095 then
    if s.ring.state = .lit then acceptedWith [] (startAcquisition .flat n target s) else refuse .headCondition s
  else refuse .outOfRange s

/-- START_FLAT_FIELD_ACQUISITION (R53). -/
def execStartFlatFieldAcquisition (q : Req) (n target : Nat) (s : State) : Host.Outcome State Fault Refusal :=
  ownedRequest q (.startFlatFieldAcquisition q n target) (startFlatFieldAcquisitionOwner n target) s

/-- Abort Acquisition (R59). -/
def abortAcquisitionOwner (s : State) : Answer :=
  if s.cal.acq.isSome = true then okWith [] (endAcquisition .aborted s) else refuse .noOperation s

/-- ABORT_ACQUISITION (R59). -/
def execAbortAcquisition (q : Req) (s : State) : Host.Outcome State Fault Refusal :=
  recordingRequest q (.abortAcquisition q) abortAcquisitionOwner s

end Sys2Proof.Machine
end

