-- ==== Sys2Proof/Machine/Warping.lean ====
section
/-! DEFINITION. Chapter 6: Review Frame, the resampling of a tile, and the Warp Engine's events. -/

namespace Sys2Proof.Machine

/-! ### Review Frame -/

/-- The first pinned slot of the held list that carries a tag (R99 (2)). -/
def State.reviewable (s : State) (t : Nat) : Option Nat :=
  s.held.find? fun n => (s.slot n).tag == t && (s.slot n).pinned

/-- The slot has a pending change of PROFILE. -/
def ViewSlot.awaitsProfile (x : ViewSlot) : Bool :=
  match x.pending with
  | .profile _ _ => true
  | _ => false

/-- Review entries queued or running (R99 (5)). -/
def State.reviewCount (s : State) : Nat := (s.warp.queue.filter fun e => e.purpose == .review).length

/-- The review entry of a held slot through a view (R100). -/
def State.reviewEntry (s : State) (v : View) (n : Nat) : WarpEntry :=
  { purpose := .review
    slot := n
    tag := (s.slot n).tag
    view := v
    buffer := (s.view v).activeBuffer.getD 0
    selector := (s.view v).active
    copy := (s.profile (s.view v).active).copy
    record := (s.slot n).record }

/-- A review entry is appended: the slot's count and the buffer's use rise by one (R100). -/
def startReview (v : View) (n : Nat) (s : State) : State :=
  appendEntries [s.reviewEntry v n]
    (addUse v ((s.view v).activeBuffer.getD 0) (modifySlot n (fun x => { x with count := x.count + 1 }) s))

/-- Review Frame through slot A or B (R99 (2) to (5), R100). -/
def reviewThrough (t : Nat) (v : View) (s : State) : Answer :=
  match s.reviewable t with
  | none => refuse .noFrame s
  | some n =>
    if (s.view v).active = 0 then
      (if (s.view v).awaitsProfile = true then refuse .viewNotReady s else refuse .nullView s)
    else if 2 ≤ s.reviewCount then refuse .queueFull s
    else acceptedWith (u8 n ++ u8 (s.view v).active) (startReview v n s)

/-- Review Frame (R99). -/
def reviewFrameOwner (t slot : Nat) (s : State) : Answer :=
  match View.ofCode slot with
  | none => refuse .outOfRange s
  | some v => if 4095 < t then refuse .outOfRange s else reviewThrough t v s

/-- REVIEW_FRAME (R99, R100). -/
def execReviewFrame (q : Req) (t slot : Nat) (s : State) : Host.Outcome State Fault Refusal :=
  recordingRequest q (.reviewFrame q t slot) (reviewFrameOwner t slot) s

/-! ### Resampling one output pixel -/

/-- Bilinear interpolation at offsets u and v of 16, with 128 added before the division by 256, rounded down
(R106, R107). -/
def bilinear (a b c d : Int) (u v : Nat) : Int :=
  ((a * (16 - (u : Int)) + b * u) * (16 - (v : Int)) + (c * (16 - (u : Int)) + d * u) * v + 128) / 256

/-- A mesh as the Warp Engine reads it: its nodes and its number of columns. -/
structure Mesh where
  nodes : List Node
  columns : Nat
  deriving DecidableEq, Repr

/-- Node (nx, ny) of a mesh (R82). -/
def Mesh.node (m : Mesh) (nx ny : Nat) : Node := m.nodes.getD (ny * m.columns + nx) ⟨0, 0, false⟩

/-- The mesh of an entry's buffer (R97). -/
def State.entryMesh (s : State) (e : WarpEntry) : Mesh := ⟨((s.view e.view).buffer e.buffer).nodes, nodeSpan e.copy.width⟩

/-- A source position passes the range and circle tests (R106). -/
def positionValid (c : ProfileCopy) (sx sy : Int) : Bool :=
  decide (0 ≤ sx) && decide (sx ≤ 16368) && decide (0 ≤ sy) && decide (sy ≤ 16368) &&
  (c.radius == 0 || decide ((sx - c.scx) ^ 2 + (sy - c.scy) ^ 2 ≤ ((16 * c.radius : Nat) : Int) ^ 2))

/-- The source position of output pixel (x, y), none where the pixel takes the fill value (R105, R106). -/
def sourcePosition (m : Mesh) (c : ProfileCopy) (x y : Nat) : Option (Nat × Nat) :=
  let cx := x / 16
  let cy := y / 16
  let n00 := m.node cx cy
  let n10 := m.node (cx + 1) cy
  let n01 := m.node cx (cy + 1)
  let n11 := m.node (cx + 1) (cy + 1)
  if n00.valid && n10.valid && n01.valid && n11.valid then
    let sx := bilinear n00.sx n10.sx n01.sx n11.sx (x % 16) (y % 16)
    let sy := bilinear n00.sy n10.sy n01.sy n11.sy (x % 16) (y % 16)
    if positionValid c sx sy = true then some (sx.toNat, sy.toNat) else none
  else none

/-- A pixel as a sample reads it: 0 when its word is uncorrectable (R20, R109). -/
def State.checkedPixel (s : State) (slot x y : Nat) : Nat :=
  if s.badWords.contains (pixelPlace slot x y / 4) then 0 else s.pixel slot x y

/-- The neighbour's index: 1024 is read as 1023 (R107). -/
def neighbour (i : Nat) : Nat := min 1023 (i + 1)

/-- The sampled value at a source position (R107). -/
def State.sampleAt (s : State) (slot sx sy : Nat) : Nat :=
  let xi := sx / 16
  let yi := sy / 16
  (bilinear (s.checkedPixel slot xi yi) (s.checkedPixel slot (neighbour xi) yi) (s.checkedPixel slot xi (neighbour yi))
    (s.checkedPixel slot (neighbour xi) (neighbour yi)) (sx % 16) (sy % 16)).toNat

/-- The words a sample reads: those of its four pixel places (R107). -/
def sampleWords (slot sx sy : Nat) : List Nat :=
  let xi := sx / 16
  let yi := sy / 16
  [pixelPlace slot xi yi / 4, pixelPlace slot (neighbour xi) yi / 4, pixelPlace slot xi (neighbour yi) / 4,
    pixelPlace slot (neighbour xi) (neighbour yi) / 4].dedup

/-- The uncorrectable words that a sample reads (R109). -/
def State.badReads (s : State) (slot sx sy : Nat) : Nat :=
  ((sampleWords slot sx sy).filter fun w => s.badWords.contains w).length

/-- The level of an output pixel and the number of uncorrectable words read for it (R105 to R109). -/
def State.levelAt (s : State) (e : WarpEntry) (m : Mesh) (x y : Nat) : Nat × Nat :=
  match sourcePosition m e.copy x y with
  | none => (e.copy.fill, 0)
  | some p => (s.sampleAt e.slot p.1 p.2, s.badReads e.slot p.1 p.2)

/-- The value sent for a level (R108). -/
def State.sentValue (s : State) (f : Format) (level : Nat) : Nat :=
  match f with
  | .wide12 => level
  | .tone8 => s.cond.tone.getD level 0

/-- The tile column of a tile number in row-major order (R102). -/
def WarpEntry.tileColumn (e : WarpEntry) (n : Nat) : Nat := n % e.copy.width

/-- The tile row of a tile number. -/
def WarpEntry.tileRow (e : WarpEntry) (n : Nat) : Nat := n / e.copy.width

/-- The output pixels of a tile in row-major order (R102). -/
def tilePixels (c r : Nat) : List (Nat × Nat) :=
  (List.range 32).flatMap fun j => (List.range 32).map fun i => (32 * c + i, 32 * r + j)

/-- The levels of a tile with the uncorrectable reads of each pixel. -/
def State.tileLevels (s : State) (e : WarpEntry) (n : Nat) : List (Nat × Nat) :=
  (tilePixels (e.tileColumn n) (e.tileRow n)).map fun p => s.levelAt e (s.entryMesh e) p.1 p.2

/-- WIDE12 packing: two pixels in three bytes (Table 10-1). -/
def packWide : List Nat → List Byte
  | a :: b :: l => u8 (a / 16) ++ u8 (a % 16 * 16 + b / 256) ++ u8 b ++ packWide l
  | [a] => u8 (a / 16) ++ u8 (a % 16 * 16)
  | [] => []

/-- The pixels of a TILE record (R108, Table 10-1). -/
def packPixels (f : Format) (l : List Nat) : List Byte :=
  match f with
  | .wide12 => packWide l
  | .tone8 => entries u8 l

/-- TILE record (R102, Table 10-1). -/
def tileRecord (e : WarpEntry) (n : Nat) (corrupt : Bool) (pixels : List Nat) : Record :=
  ⟨0xE1, 0, u8 e.view.code ++ u16 e.tag ++ u8 (e.tileColumn n) ++ u8 (e.tileRow n) ++ u8 (if corrupt then 1 else 0) ++
    packPixels e.copy.format pixels⟩

/-! ### Warp Engine events -/

/-- Words found uncorrectable join those known (R20; log 12). -/
def noteBadWords (faulty : List Nat) (s : State) : State :=
  { s with badWords := (faulty.filter fun w => !s.badWords.contains w).dedup ++ s.badWords }

/-- The tile has been formed: its record waits for a place, or is discarded (R102, R111). -/
def finishTile (r : Record) (corrupt : Bool) (s : State) : State :=
  if s.warp.discarding = true then pumpWarp (tileDone s)
  else pumpWarp { s with warp.corrupt := corrupt, warp.waiting := .tile r }

/-- The uncorrectable reads of a tile. -/
def tileErrors (levels : List (Nat × Nat)) : Nat := (levels.map (·.2)).sum

/-- The tile of a warp is formed from its levels: an error is raised per uncorrectable read, and the tile is marked
CORRUPT when there was one (R102, R109). -/
def closeTile (e : WarpEntry) (levels : List (Nat × Nat)) (s : State) : State :=
  finishTile (tileRecord e s.warp.next (tileErrors levels != 0) (levels.map fun p => s.sentValue e.copy.format p.1))
    (tileErrors levels != 0) (raiseTimes .frameStoreEcc (tileErrors levels) s)

/-- The current tile of a warp is formed (R102, R105 to R109). -/
def formTile (e : WarpEntry) (s : State) : State := closeTile e (s.tileLevels e s.warp.next) s

/-- A tile is complete: only while a warp is RUNNING and no record of it waits for a place (R102, R110; log 3). -/
def tileCompletes (faulty : List Nat) (s : State) : State :=
  match s.warp.engine, s.warp.waiting, s.warp.queue with
  | .running, .nothing, e :: _ => formTile e (noteBadWords faulty s)
  | _, _, _ => s

/-- WARP_TILE_COMPLETE (R102). -/
def execWarpTileComplete (faulty : List Nat) (s : State) : Host.Outcome State Fault Refusal :=
  asEvent (.warpTileComplete faulty) (tileCompletes faulty) s

/-- IMAGE_RECORD_PLACE (R110): a record that waits for a place takes one that is free (log 14). -/
def execImageRecordPlace (s : State) : Host.Outcome State Fault Refusal := asEvent .imageRecordPlace pumpWarp s

/-! ### Enter Setup (R113) -/

/-- Entries removed unrun, or truncated, end in the order of the queue (R104; the order is the model's choice, log 45). -/
def endEntries (l : List WarpEntry) (s : State) : State := l.foldl (fun t e => entryEnd e t) s

/-- The live warp that runs is truncated: a FRAME END is owed unless its FRAME BEGIN still waited for a place
(R113 (2)). -/
def truncateWarp (e : WarpEntry) (s : State) : State :=
  if s.warp.waiting = .frameBegin then
    { s with warp.engine := .idle, warp.waiting := .nothing, warp.corrupt := false, warp.owed := none }
  else
    { s with
      warp.engine := .closing
      warp.waiting := .nothing
      warp.corrupt := false
      warp.owed := some ⟨e.view, e.tag, false, s.warp.placed⟩ }

/-- The review entries of a list. -/
def reviewsOf (l : List WarpEntry) : List WarpEntry := l.filter fun e => e.purpose == .review

/-- The live entries of a list. -/
def livesOf (l : List WarpEntry) : List WarpEntry := l.filter fun e => e.purpose == .live

/-- The Warp Engine at Enter Setup (R113); a truncated entry ends before the queued ones (log 45). -/
def setupWarps (s : State) : State :=
  match s.warp.engine, s.warp.queue with
  | .running, e :: rest =>
    if e.purpose = .live then
      pumpWarp (endEntries (e :: livesOf rest) (truncateWarp e { s with warp.queue := reviewsOf rest }))
    else pumpWarp (endEntries (livesOf rest) { s with warp.queue := e :: reviewsOf rest })
  | _, l => pumpWarp (endEntries (livesOf l) { s with warp.queue := reviewsOf l })

end Sys2Proof.Machine
end

