-- ==== Sys2Proof/Machine/Ports.lean ====
section
/-! DEFINITION. Chapter 10: the ports, the link, the part mode, Query Status and Restart. -/

namespace Sys2Proof.Machine

/-! ### Resets -/

/-- POWER_ON (R22, R176, R177). -/
def execPowerOn (t : Straps) (s : State) : Host.Outcome State Fault Refusal := asEvent (.powerOn t) (resetWithStraps t) s

/-- EXTERNAL_RESET (R22, R176, R177). -/
def execExternalReset (t : Straps) (s : State) : Host.Outcome State Fault Refusal :=
  asEvent (.externalReset t) (resetWithStraps t) s

/-! ### Reception (R166, R168, R171) -/

/-- The records and framing errors found in received bytes take effect in turn (R166, R168). -/
def takeFound (p : Port) : List (Option Record) → State → State
  | [], s => s
  | none :: l, s => takeFound p l (countFramingError p s)
  | some r :: l, s => takeFound p l (arrive p r.kind r.tag (readRecord p r) s)

/-- Bytes arrive on the tether link, which takes them only while it is UP; a record not yet whole waits for its other bytes
(R166; log 21). -/
def tetherReceives (bytes : List Byte) (s : State) : State :=
  if s.tether.link = .up then
    let l := s.tether.rx ++ bytes
    let found := scanBytes l.length l
    takeFound .tether found.1 { s with tether.rx := found.2 }
  else s

/-- What a service write transaction carries: the errors before its first good record, and that record (R171). -/
def firstRecord : List (Option Record) → List (Option Record)
  | [] => []
  | none :: l => none :: firstRecord l
  | some r :: _ => [some r]

/-- A write transaction of the service port: one record; one in which no record and no error is found has ended before a
whole record (R171; log 21). -/
def serviceReceives (addr : Nat) (bytes : List Byte) (s : State) : State :=
  if addr = s.service.address then
    match firstRecord (scanBytes bytes.length bytes).1 with
    | [] => countFramingError .service s
    | l => takeFound .service l s
  else s

/-- Bytes arrive at a port; `addr` is the target address of a service transaction. -/
def bytesArrive (p : Port) (addr : Nat) (bytes : List Byte) (s : State) : State :=
  match p with
  | .tether => tetherReceives bytes s
  | .service => serviceReceives addr bytes s

/-- RECORD_RECEIVED (R166). -/
def execRecordReceived (p : Port) (addr : Nat) (bytes : List Byte) (s : State) : Host.Outcome State Fault Refusal :=
  asEvent (.recordReceived p addr bytes) (bytesArrive p addr bytes) s

/-! ### The Restart reply and the service read -/

/-- The reply OK to a Restart (R175). -/
def Record.isRestartReply (r : Record) : Bool := r.kind == 0x84 && r.payload == u8 Code.ok.value

/-- Bytes of a record as a read of `count` bytes returns them: all ones beyond its end (R171). -/
def readBytes (count : Nat) (r : Record) : List Byte :=
  r.bytes.take count ++ List.replicate (count - r.bytes.length) 0xFF#8

/-- The bytes returned by a service read. -/
def State.withOut (s : State) (l : List Byte) : State := { s with service.out := l }

/-- The oldest service reply has been read to its last byte: it leaves the queue, and with the Restart reply the restart is
carried out (R171, R175). -/
def replyRead (r : Record) (s : State) : State :=
  let t : State := { s with service.replies := s.service.replies.drop 1 }
  if s.restartPending = some .service ∧ r.isRestartReply = true then carryOutRestart t else t

/-- A read transaction of `count` bytes at an address (R171). -/
def serviceReads (addr count : Nat) (s : State) : State :=
  if addr = s.service.address then
    match s.service.replies with
    | [] => s.withOut (readBytes count Record.empty)
    | r :: _ => (if r.bytes.length ≤ count then replyRead r s else s).withOut (readBytes count r)
  else s

/-- SERVICE_READ (R171). -/
def execServiceRead (addr count : Nat) (s : State) : Host.Outcome State Fault Refusal :=
  asEvent (.serviceRead addr count) (serviceReads addr count) s

/-- The time for the Restart reply runs out on the service port (R175); without such a reply it cannot (log 3). -/
def restartTimesOut (s : State) : State := if s.restartPending = some .service then carryOutRestart s else s

/-- RESTART_REPLY_TIMEOUT (R175). -/
def execRestartReplyTimeout (s : State) : Host.Outcome State Fault Refusal := asEvent .restartReplyTimeout restartTimesOut s

/-! ### The transmitter and the link -/

/-- The transmitter ends a record: the Restart reply carries out the restart, else the next record is taken and a waiting
image record takes a freed place (R110, R170, R175; log 14). -/
def sendingEnds (s : State) : State :=
  match s.tether.sending with
  | none => s
  | some r =>
    if s.restartPending = some .tether ∧ r.isRestartReply = true then carryOutRestart { s with tether.sending := none }
    else pumpWarp { s with tether := { s.tether with sending := none }.takeNext }

/-- RECORD_SENT (R170). -/
def execRecordSent (s : State) : Host.Outcome State Fault Refusal := asEvent .recordSent sendingEnds s

/-- A training attempt succeeds: the link is UP at the offered rate (R164). -/
def trainingSucceeds (s : State) : State :=
  if s.tether.link = .training then { s with tether.link := .up, tether.rx := [] } else s

/-- LINK_TRAINING_SUCCESS (R164). -/
def execLinkTrainingSuccess (s : State) : Host.Outcome State Fault Refusal :=
  asEvent .linkTrainingSuccess trainingSucceeds s

/-- The other rate. -/
def otherRate : Rate → Rate
  | .full => .reduced
  | .reduced => .full

/-- The offered rate after a failed attempt (R164). -/
def Tether.nextOffer (t : Tether) : Rate := if t.alternation = true then otherRate t.offered else t.startRate

/-- A training attempt fails (R164). -/
def trainingFails (s : State) : State :=
  if s.tether.link = .training then { s with tether.link := .down, tether.offered := s.tether.nextOffer } else s

/-- LINK_TRAINING_FAILURE (R164). -/
def execLinkTrainingFailure (s : State) : Host.Outcome State Fault Refusal :=
  asEvent .linkTrainingFailure trainingFails s

/-- The retrain timer expires: the link enters TRAINING (R164). -/
def retrainExpires (s : State) : State :=
  if s.tether.link = .down then { s with tether.link := .training, tether.lostLock := false } else s

/-- RETRAIN_TIMER_EXPIRY (R164). -/
def execRetrainTimerExpiry (s : State) : Host.Outcome State Fault Refusal := asEvent .retrainTimerExpiry retrainExpires s

/-- The tether port as the link loses lock: DOWN, the rate kept for the next attempt, queues empty, the records under way
gone (R165). -/
def Tether.lost (t : Tether) : Tether :=
  { t with link := .down, lostLock := true, rx := [], sending := none, replies := [], notices := [], images := [] }

/-- The link loses lock while UP (R112, R165). A Restart reply that is lost with it carries out the restart (log 22). -/
def linkLost (s : State) : State :=
  if s.tether.link = .up then
    let t := warpLinkLost (raise .linkLost { s with tether := s.tether.lost })
    if s.restartPending = some .tether then carryOutRestart t else t
  else s

/-- LINK_LOSS (R165). -/
def execLinkLoss (s : State) : Host.Outcome State Fault Refusal := asEvent .linkLoss linkLost s

/-! ### Unknown kinds and Query Status -/

/-- UNKNOWN_KIND (R169 (1)). -/
def execUnknownKind (q : Req) (kind : Nat) (s : State) : Host.Outcome State Fault Refusal :=
  ownedRequest q (.unknownKind q kind) (refuse .unknownKind) s

/-- The reply data of Query Status (R174). The rate of a link that is UP and the load outcome are present-or-absent parts; the
absence of the outcome is the mark that BOOT is in progress (R174 (2) and (7); the model's choice, log 18). -/
def queryStatusData (s : State) : List Byte :=
  u8 s.mode.code ++ u8 s.tether.link.code ++
  optionalPart (fun r => u8 (Rate.code r)) (if s.tether.link = .up then some s.tether.offered else none) ++
  u8 s.tether.offered.code ++ u8 s.tether.startRate.code ++ flag s.tether.alternation ++
  u8 s.service.address ++ u16 s.tether.errors ++ u16 s.service.errors ++
  u8 s.tetherQueue.length ++ u8 s.serviceQueue.length ++ u8 s.tether.replies.length ++ u8 s.service.replies.length ++
  u8 s.tether.notices.length ++ u8 s.tether.images.length ++
  optionalPart (fun a : Acquisition => u8 a.kind.code ++ u8 a.frames ++ u8 a.taken) s.cal.acq ++
  optionalPart (fun o => u8 (LoadOutcome.code o)) s.store.outcome ++
  flag s.faults.line ++ u8 (s.faults.entries.filter (·.set)).length

/-- A port's framing error count becomes 0 (R174). -/
def clearErrors (p : Port) (s : State) : State :=
  match p with
  | .tether => { s with tether.errors := 0 }
  | .service => { s with service.errors := 0 }

/-- Query Status (R174): the reply is formed, then the count of its port is cleared. -/
def queryStatusOwner (p : Port) (s : State) : Answer := okWith (queryStatusData s) (clearErrors p s)

/-- QUERY_STATUS (R174). -/
def execQueryStatus (q : Req) (s : State) : Host.Outcome State Fault Refusal :=
  ownedRequest q (.queryStatus q) (queryStatusOwner q.port) s

/-! ### Enter Setup (R173, Table 10-4) -/

/-- A FILLING slot returns to FREE and loses its pin (R21 (2)). -/
def FrameSlot.emptied (x : FrameSlot) : FrameSlot := if x.state = .filling then { x with state := .free, pinned := false } else x

/-- The frame in exposure or readout ends its frame uses (R84). -/
def endFrameUses (s : State) : State :=
  match s.capture.frame with
  | none => s
  | some f => dropFrameUses f.views s

/-- The Capture Controller and the Frame Store at Enter Setup (R21 (1), (2) and (4)). -/
def setupCapture (s : State) : State :=
  { endFrameUses s with
    capture :=
      { s.capture.applyPending with mode := .stopped, frame := none, rows := 0, position := 0 }
    slots := s.slots.map FrameSlot.emptied
    nextPin := false }

/-- The Pixel Conditioner at Enter Setup (R28, R34). -/
def setupConditioner (s : State) : State := latchMaps { s with cond.acc := none }

/-- Both map links become absent (R44). -/
def dropLinks (s : State) : State := { s with linkTether := none, linkService := none }

/-- A channel that is OPEN returns to NORMAL (R115, R124). -/
def Channel.restored (c : Channel) : Channel := if c.state = .opened then { c with state := .normal } else c

/-- The Ring Controller at Enter Setup (R124). -/
def setupRing (s : State) : State :=
  setDemand false
    (setRingState .off
      { s with
        ring.codes := zeroCodes
        ring.trip := .none
        ring.causes := LockCauses.empty
        ring.channels := s.ring.channels.map Channel.restored
        ring.note := none })

/-- The Drive Supervisor at Enter Setup (R149). -/
def setupSupervisor (s : State) : State :=
  { s with sup.level := .none, sup.count := 0, sup.dimPart := none, sup.offPart := none }

/-- Enter Setup taken in RUN (R173; log 31). -/
def leaveRun (s : State) : State :=
  setupSupervisor (setupRing (setupWarps (adoptViews
    (dropLinks (endAcquisition .aborted (setupConditioner (setupCapture { s with mode := .setup })))))))

/-- Enter Setup (R173). -/
def enterSetupOwner (s : State) : Answer := if s.mode = .run then okWith [] (leaveRun s) else okWith [] s

/-- ENTER_SETUP (R173). -/
def execEnterSetup (q : Req) (s : State) : Host.Outcome State Fault Refusal :=
  recordingRequest q (.enterSetup q) enterSetupOwner s

/-! ### Enter Run (R172) -/

/-- The Ring Controller at Enter Run (R123). -/
def runRing (s : State) : State :=
  let t := setDemand true
    { s with ring.trip := .none, ring.causes := LockCauses.empty, ring.note := none }
  if t.ring.presence = true then lightRing t else setRingState .absent t

/-- The Drive Supervisor at Enter Run (R149). -/
def runSupervisor (s : State) : State := { s with sup.count := 0, sup.level := .none }

/-- Enter Run whose checks have passed (R172). -/
def beginRun (s : State) : State := firstFrameStart (runRing (runSupervisor (dropLinks { s with mode := .run })))

/-- Enter Run (R172). -/
def enterRunOwner (s : State) : Answer :=
  if s.mode = .run then okWith [] s
  else if s.head.condition = true then refuse .headCondition s
  else if s.ring.budget < s.ring.enabledMinimumSum then refuse .outOfRange s
  else okWith [] (beginRun s)

/-- ENTER_RUN (R172). -/
def execEnterRun (q : Req) (s : State) : Host.Outcome State Fault Refusal :=
  ownedRequest q (.enterRun q) enterRunOwner s

/-! ### Restart (R175) -/

/-- Restart: the reply OK is queued and the restart is pending; a tether reply that is discarded as it is produced carries
it out at once (R175). -/
def restartServe (q : Req) (s : State) : State :=
  let t := answer q (.restart q) (okWith [] { s with restartPending := some q.port })
  if q.port = .tether ∧ s.tether.link ≠ .up then carryOutRestart t else t

/-- RESTART (R175). -/
def execRestart (q : Req) (s : State) : Host.Outcome State Fault Refusal :=
  asRequest q (.restart q) (restartServe q) s

end Sys2Proof.Machine
end

