-- ==== Sys2Proof/Machine/Supervision.lean ====
section
/-! DEFINITION. Chapter 8: the requests of the Drive Supervisor. -/

namespace Sys2Proof.Machine

/-- Limits that Write Supervision Limits accepts (R140 (2) and (3)). -/
def limitsAccepted (total dimCount offCount openLevel : Nat) : Bool :=
  decide (total ≤ 49140) && decide (1 ≤ dimCount) && decide (dimCount ≤ offCount) && decide (offCount ≤ 255) &&
  decide (openLevel ≤ 4095)

/-- The four limits in a reply (R140, R148). -/
def limitsData (x : Supervisor) : List Byte := u16 x.total ++ u8 x.dimCount ++ u8 x.offCount ++ u16 x.openLevel

/-- The Drive Supervisor with the four limits replaced. -/
def Supervisor.withLimits (x : Supervisor) (total dimCount offCount openLevel : Nat) : Supervisor :=
  { x with total := total, dimCount := dimCount, offCount := offCount, openLevel := openLevel }

/-- Write Supervision Limits (R140). -/
def writeSupervisionLimitsOwner (total dimCount offCount openLevel : Nat) (s : State) : Answer :=
  if s.mode = .run then refuse .refusedMode s
  else if limitsAccepted total dimCount offCount openLevel = true then
    okWith (limitsData (s.sup.withLimits total dimCount offCount openLevel))
      { s with sup := s.sup.withLimits total dimCount offCount openLevel }
  else refuse .outOfRange s

/-- WRITE_SUPERVISION_LIMITS (R140). -/
def execWriteSupervisionLimits (q : Req) (total dimCount offCount openLevel : Nat) (s : State) :
    Host.Outcome State Fault Refusal :=
  ownedRequest q (.writeSupervisionLimits q total dimCount offCount openLevel)
    (writeSupervisionLimitsOwner total dimCount offCount openLevel) s

/-- The latest sample set in a reply; outcome 0 is over-limit, 1 within limits, and the cause is a part present when it is
over-limit (R141, R148 (4), R167; log 18). -/
def sampleData (x : SampleSet) : List Byte :=
  u16 x.tag ++ entries u16 x.samples ++ u16 x.samples.sum ++ entries u16 x.codes ++ u8 x.ring.code ++
  u8 (if x.cause.isSome = true then 0 else 1) ++ optionalPart u8 x.cause

/-- The DIM part in a reply (Table 8-3). -/
def dimPartData (p : DimPart) : List Byte := u16 p.tag ++ u8 p.cause ++ entries u16 p.samples ++ u16 p.samples.sum

/-- The OFF part in a reply (Table 8-3). -/
def offPartData (p : OffPart) : List Byte := u16 p.tag ++ u8 p.cause

/-- The reply data of Query Trip (R148). -/
def queryTripData (x : Supervisor) : List Byte :=
  u8 x.level.code ++ u8 x.count ++ limitsData x ++ u8 x.ring.code ++ optionalPart sampleData x.sample ++
  optionalPart dimPartData x.dimPart ++ optionalPart offPartData x.offPart

/-- Query Trip (R148). -/
def queryTripOwner (s : State) : Answer := okWith (queryTripData s.sup) s

/-- QUERY_TRIP (R148). -/
def execQueryTrip (q : Req) (s : State) : Host.Outcome State Fault Refusal :=
  ownedRequest q (.queryTrip q) queryTripOwner s

end Sys2Proof.Machine
end

