-- ==== Sys2Proof/Machine/Views.lean ====
section
/-! DEFINITION. Chapter 4: the requests of the Profile Table and the View Slots. -/

namespace Sys2Proof.Machine

/-- The privilege of a port's requests (R65). -/
def portPrivilege : Port → Privilege
  | .tether => .openLevel
  | .service => .protectedLevel

/-! ### Profiles -/

/-- A number within a range. -/
def within (lo hi n : Int) : Bool := decide (lo ≤ n) && decide (n ≤ hi)

/-- The fields of a descriptor of the given kind lie in the ranges of Table 4-1, and the tiles number at most 1024
(R64). -/
def descriptorInRange (k : ProfileKind) (d : ProfileArg) : Bool :=
  within 1 64 d.width && within 1 32 d.height && decide (d.width * d.height ≤ 1024) &&
  (match k with
    | .radial => within (-4096) 4095 d.ocx && within (-4096) 4095 d.ocy
    | .unroll => within 0 4095 d.startAngle) &&
  within (-32768) 32767 d.scx && within (-32768) 32767 d.scy && within 0 1023 d.radius && within 0 7 d.table &&
  within 1 64 d.step && within 0 4095 d.fill

/-- The descriptor a record carries, none when it is not valid (R64, R66 (4)); with present = no only the level is kept.
The bound mark of a record is never taken. -/
def descriptorOf (d : ProfileArg) : Option Profile :=
  match boolOfCode d.present, Privilege.ofCode d.level with
  | some false, some level => some { Profile.atReset with level := level }
  | some true, some level =>
    match ProfileKind.ofCode d.kind, Format.ofCode d.format with
    | some kind, some format =>
      if descriptorInRange kind d = true then
        some
          { present := true
            kind := kind
            level := level
            width := d.width
            height := d.height
            ocx := if kind = .radial then d.ocx else 0
            ocy := if kind = .radial then d.ocy else 0
            startAngle := if kind = .radial then 0 else d.startAngle
            scx := d.scx
            scy := d.scy
            radius := d.radius
            table := d.table
            step := d.step
            fill := d.fill
            format := format
            mark := .none }
      else none
    | _, _ => none
  | _, _ => none

/-- OPEN privilege meets a PROTECTED profile: one that is, or one that the record would make (R65 (1)). -/
def protectedFrom (priv : Privilege) (p : Profile) (d : ProfileArg) : Bool :=
  priv == .openLevel && (p.level == .protectedLevel || d.level == Privilege.protectedLevel.code)

/-- Write Profile (R66). -/
def writeProfileOwner (priv : Privilege) (sel : Nat) (d : ProfileArg) (s : State) : Answer :=
  if sel = 0 ∨ s.table.limit ≤ sel then refuse .badSelector s
  else if protectedFrom priv (s.profile sel) d = true then refuse .refusedPrivilege s
  else if (s.profile sel).mark ≠ .none then refuse .profileBusy s
  else
    match descriptorOf d with
    | none => refuse .outOfRange s
    | some p => okWith [] { s with table.profiles := s.table.profiles.set sel p }

/-- WRITE_PROFILE (R66). -/
def execWriteProfile (q : Req) (sel : Nat) (d : ProfileArg) (s : State) : Host.Outcome State Fault Refusal :=
  ownedRequest q (.writeProfile q sel d) (writeProfileOwner (portPrivilege q.port) sel d) s

/-- A descriptor in a reply; the field that does not belong to the kind is marked absent (R64, R67). -/
def descriptorData (p : Profile) : List Byte :=
  flag p.present ++ u8 p.kind.code ++ u8 p.level.code ++ u8 p.width ++ u8 p.height ++
  optionalPart (fun c : Int × Int => i16 c.1 ++ i16 c.2) (if p.kind = .radial then some (p.ocx, p.ocy) else none) ++
  optionalPart u16 (if p.kind = .unroll then some p.startAngle else none) ++
  i16 p.scx ++ i16 p.scy ++ u16 p.radius ++ u8 p.table ++ u8 p.step ++ u16 p.fill ++ u8 p.format.code ++ u8 p.mark.code

/-- Read Profile (R67): the descriptor is an absent part for the null profile. -/
def readProfileOwner (sel : Nat) (s : State) : Answer :=
  if s.table.limit ≤ sel then refuse .badSelector s
  else okWith (optionalPart descriptorData (if sel = 0 then none else some (s.profile sel))) s

/-- READ_PROFILE (R67). -/
def execReadProfile (q : Req) (sel : Nat) (s : State) : Host.Outcome State Fault Refusal :=
  ownedRequest q (.readProfile q sel) (readProfileOwner sel) s

/-- The selectors of the marked profiles, in increasing order (R80 (5)). -/
def State.markedSelectors (s : State) : List Nat :=
  (List.range s.table.profiles.length).filter fun n => (s.profile n).mark != .none

/-- Set Profile Limit (R68). -/
def setProfileLimitOwner (limit : Nat) (s : State) : Answer :=
  if s.mode = .run then refuse .refusedMode s
  else if limit < 1 ∨ 32 < limit then refuse .outOfRange s
  else if s.markedSelectors.any (fun n => decide (limit ≤ n)) = true then refuse .profileBusy s
  else okWith [] { s with table.limit := limit }

/-- SET_PROFILE_LIMIT (R68). -/
def execSetProfileLimit (q : Req) (limit : Nat) (s : State) : Host.Outcome State Fault Refusal :=
  ownedRequest q (.setProfileLimit q limit) (setProfileLimitOwner limit) s

/-! ### Radial tables -/

/-- Write Radial Table (R70). -/
def writeRadialTableOwner (priv : Privilege) (n : Nat) (l : List Nat) (s : State) : Answer :=
  if 7 < n then refuse .outOfRange s
  else if priv = .openLevel ∧ n ≤ 3 then refuse .refusedPrivilege s
  else if 0 < s.hold n then refuse .tableBusy s
  else if l.any (fun e => decide (32767 < e)) = true then refuse .outOfRange s
  else okWith [] { s with table.radial := s.table.radial.set n l }

/-- WRITE_RADIAL_TABLE (R70). -/
def execWriteRadialTable (q : Req) (n : Nat) (l : List Nat) (s : State) : Host.Outcome State Fault Refusal :=
  ownedRequest q (.writeRadialTable q n l) (writeRadialTableOwner (portPrivilege q.port) n l) s

/-- Read Radial Table (R71). -/
def readRadialTableOwner (n : Nat) (s : State) : Answer :=
  if 7 < n then refuse .outOfRange s else okWith (entries u16 (s.radialTable n) ++ u8 (s.hold n)) s

/-- READ_RADIAL_TABLE (R71). -/
def execReadRadialTable (q : Req) (n : Nat) (s : State) : Host.Outcome State Fault Refusal :=
  ownedRequest q (.readRadialTable q n) (readRadialTableOwner n) s

/-! ### Bind View -/

/-- The kinds a slot accepts (Table 4-2). -/
def acceptsKind : View → ProfileKind → Bool
  | .a, .radial => true
  | .a, .unroll => false
  | .b, _ => true

/-- The marks of the other slot. -/
def marksOther : View → Mark → Bool
  | .a, m => m == .bActive || m == .bPending
  | .b, m => m == .aActive || m == .aPending

/-- A pending change of PROFILE is cancelled; UNBIND stays (R76 (1)). -/
def cancelProfile (v : View) (s : State) : State :=
  match (s.view v).pending with
  | .profile _ _ => cancelPending v s
  | _ => s

/-- Bind View with selector 0 (R76). -/
def unbindView (v : View) (s : State) : State :=
  if (s.view v).active = 0 then cancelProfile v s
  else if s.mode = .run then setPendingChange v .unbind (cancelProfile v s)
  else makeNull v (cancelProfile v s)

/-- The selector of a slot's pending change of PROFILE. -/
def ViewSlot.pendingSelector (x : ViewSlot) : Option Nat :=
  match x.pending with
  | .profile sel _ => some sel
  | _ => none

/-- A new pending change of PROFILE (R75): the earlier one is cancelled, the profile marked, its build asked for. -/
def bindProfile (v : View) (sel : Nat) (s : State) : State :=
  requestBuild v sel (setMark sel (pendingMark v) (cancelPending v s))

/-- The outcome of Bind View for slot A or B (R74 (2) to (9)). -/
def bindOutcome (v : View) (sel : Nat) (s : State) : Code × State :=
  if s.table.limit ≤ sel then (.badSelector, s)
  else if sel = 0 then (.ok, unbindView v s)
  else if (s.profile sel).present = false then (.notPresent, s)
  else if acceptsKind v (s.profile sel).kind = false then (.wrongKind, s)
  else if marksOther v (s.profile sel).mark = true then (.profileBusy, s)
  else if sel = (s.view v).active then (.ok, cancelPending v s)
  else if (s.view v).pendingSelector = some sel then (.ok, s)
  else (.accepted, bindProfile v sel s)

/-- A pending change in a reply: absent, PROFILE with its selector, or UNBIND (R167, Table 4-2; log 18). -/
def pendingData : PendingChange → List Byte
  | .absent => u8 0
  | .profile sel _ => u8 1 ++ u8 sel
  | .unbind => u8 2

/-- The reply data of Bind View (R74). -/
def bindData (v : View) (s : State) : List Byte :=
  u8 v.code ++ u8 (s.view v).active ++ pendingData (s.view v).pending

/-- Bind View (R74): the reply to every bind of a slot carries the slot's state after the request (log 42). -/
def bindViewOwner (slot sel : Nat) (s : State) : Answer :=
  match View.ofCode slot with
  | none => refuse .outOfRange s
  | some v => ⟨some ((bindOutcome v sel s).1, bindData v (bindOutcome v sel s).2), (bindOutcome v sel s).2⟩

/-- BIND_VIEW (R74). -/
def execBindView (q : Req) (slot sel : Nat) (s : State) : Host.Outcome State Fault Refusal :=
  recordingRequest q (.bindView q slot sel) (bindViewOwner slot sel) s

/-! ### Query Views -/

/-- The pending build, a part present under a pending change of PROFILE (Table 4-2, R80 (2), R167; log 18). -/
def buildData : PendingChange → List Byte
  | .profile _ b => optionalPart u8 (some b.code)
  | _ => optionalPart u8 none

/-- A slot's active selector, pending change and pending build (R80 (2)). -/
def slotData (x : ViewSlot) : List Byte := u8 x.active ++ pendingData x.pending ++ buildData x.pending

/-- A mesh buffer in a reply: state, selector and use count (R80 (3), R83). -/
def bufferData (m : MeshBuffer) : List Byte := u8 m.state.code ++ optionalPart u8 m.selector ++ u8 m.uses

/-- The reply data of Query Views (R80). -/
def queryViewsData (s : State) : List Byte :=
  u8 s.table.limit ++ slotData s.viewA ++ slotData s.viewB ++
  bufferData s.viewA.buffer0 ++ bufferData s.viewA.buffer1 ++ bufferData s.viewB.buffer0 ++ bufferData s.viewB.buffer1 ++
  entries u8 s.table.holds ++ entries (fun n => u8 n ++ u8 (s.profile n).mark.code) s.markedSelectors

/-- Query Views (R80). -/
def queryViewsOwner (s : State) : Answer := okWith (queryViewsData s) s

/-- QUERY_VIEWS (R80). -/
def execQueryViews (q : Req) (s : State) : Host.Outcome State Fault Refusal :=
  ownedRequest q (.queryViews q) queryViewsOwner s

/-! ### Build completion -/

/-- The buffer in which a slot's build runs. -/
def ViewSlot.buildingBuffer (x : ViewSlot) : Nat := if x.buffer0.state = .building then 0 else 1

/-- The last node has been written: the buffer and the pending build are READY (R87). -/
def finishBuild (v : View) (sel : Nat) (s : State) : State :=
  setPendingChange v (.profile sel .ready)
    (modifyBuffer v (s.view v).buildingBuffer
      (fun m => { m with state := .ready, nodes := buildMesh (s.profile sel) (s.radialTable (s.profile sel).table) }) s)

/-- A build completes: in SETUP its mesh is adopted at once, in RUN it waits for a frame start (R78, R87). Without a build
in progress the event cannot occur (log 3). -/
def completeBuild (v : View) (s : State) : State :=
  match (s.view v).pending with
  | .profile sel .building => if s.mode = .run then finishBuild v sel s else adopt v sel (finishBuild v sel s)
  | _ => s

/-- BUILD_COMPLETION (R87). -/
def execBuildCompletion (v : View) (s : State) : Host.Outcome State Fault Refusal :=
  asEvent (.buildCompletion v) (completeBuild v) s

end Sys2Proof.Machine
end

