-- ==== Sys2Proof/Machine/StoreRequests.lean ====
section
/-! DEFINITION. Chapter 11: the flash, the stored image, the load in BOOT, and the requests of the Store Loader. -/

namespace Sys2Proof.Machine

/-! ### The flash -/

/-- The stamp of the free bytes of a page that a reset left undefined (R180; log 6). -/
def Store.undefinedStamp (x : Store) (page : Nat) : Option Nat :=
  (x.undefinedPages.find? fun e => e.1 == page).map (·.2)

/-- The byte of the flash at an address: what was written there, or a free value in an undefined page (R180; log 5,
log 6). -/
def Store.byteAt (x : Store) (a : Nat) : Byte :=
  match x.undefinedStamp (a / 256) with
  | some stamp => Config.freeFlashByte stamp (a % 256)
  | none => Memory.read blankByte x.flash a

/-- `n` bytes of the flash from an address on. -/
def Store.bytes (x : Store) (base n : Nat) : List Byte := (List.range n).map fun i => x.byteAt (base + i)

/-- The flash after a page write: all 256 bytes of the page replaced (R180). -/
def Store.withPage (x : Store) (page : Nat) (l : List Byte) : Store :=
  { x with
    op := none
    flash := Memory.writeBlock blankByte x.flash (256 * page) l
    undefinedPages := x.undefinedPages.filter fun e => e.1 != page }

/-! ### The stored image (R177) -/

/-- The header of the stored image (Table 11-1). -/
structure ImageHeader where
  format : Nat
  length : Nat
  count : Nat
  crc : Nat
  deriving DecidableEq, Repr

/-- The header as the flash holds it: most significant byte first (R177). -/
def Store.header (x : Store) : ImageHeader :=
  ⟨bytesToNat (x.bytes 0 2), bytesToNat (x.bytes 2 4), bytesToNat (x.bytes 6 2), bytesToNat (x.bytes 8 4)⟩

/-- The greatest image length (Table 11-1). -/
def maxImage : Nat := 524276

/-- The bytes after the header that the image length names. -/
def Store.body (x : Store) : List Byte := x.bytes 12 x.header.length

/-- Walk `n` records: those found, and whether the walk ended exactly at the end of the bytes (R177 (4)). -/
def walkRecords : Nat → List Byte → List StoredRecord × Bool
  | 0, l => ([], l.isEmpty)
  | n + 1, l =>
    match l with
    | k :: a :: b :: rest =>
      if a.toNat * 256 + b.toNat ≤ 2048 ∧ a.toNat * 256 + b.toNat ≤ rest.length then
        let w := walkRecords n (rest.drop (a.toNat * 256 + b.toNat))
        (⟨k.toNat, rest.take (a.toNat * 256 + b.toNat)⟩ :: w.1, w.2)
      else ([], false)
    | _ => ([], false)

/-- The first of the conditions (1) to (4) of R177 that makes the image bad, none for a good image. -/
def Store.fault (x : Store) : Option Nat :=
  if x.header.format ≠ 1 then some 1
  else if maxImage < x.header.length then some 2
  else if crc32 x.body ≠ x.header.crc then some 3
  else if (walkRecords x.header.count x.body).2 = false then some 4
  else none

/-- The records that the walk meets: none when the image is bad before the walk (R177, R181; log 25). -/
def Store.records (x : Store) : List StoredRecord :=
  match x.fault with
  | none => (walkRecords x.header.count x.body).1
  | some 4 => (walkRecords x.header.count x.body).1
  | some _ => []

/-! ### Applying a stored record (R178) -/

/-- PORT OPTIONS (Table 11-1, R178). -/
def portOptionsKind : Nat := 0x5F

/-- The stored kinds of Table 11-2, but for PORT OPTIONS. -/
def storedKinds : List Nat :=
  [0x10, 0x11, 0x18, 0x19, 0x1A, 0x22, 0x24, 0x30, 0x32, 0x34, 0x40, 0x41, 0x42, 0x43, 0x48, 0x52]

/-- The owner of a stored record's request, with the PROTECTED privilege (R65, R178); none for a request that is not of a
stored kind. -/
def storedOwner (i : Instr) : Option (State → Answer) :=
  match i with
  | .setTiming _ p pat n => some (setTimingOwner p pat n)
  | .writeExposureTable _ l => some (writeExposureTableOwner l)
  | .writeSectorMap _ l => some (writeSectorMapOwner l)
  | .writeStatisticsSettings _ g h => some (writeStatisticsSettingsOwner g h)
  | .writeToneSegment _ n l => some (writeToneSegmentOwner n l)
  | .writeMapRegion _ r l => some (writeMapRegionOwner r l)
  | .setDarkRefresh _ e w => some (setDarkRefreshOwner e w)
  | .writeProfile _ n d => some (writeProfileOwner .protectedLevel n d)
  | .writeRadialTable _ n l => some (writeRadialTableOwner .protectedLevel n l)
  | .setProfileLimit _ n => some (setProfileLimitOwner n)
  | .writeChannelTable _ k c => some (writeChannelTableOwner k c)
  | .writeRingBudget _ b => some (writeRingBudgetOwner b)
  | .writeBalanceSettings _ b => some (writeBalanceSettingsOwner b)
  | .writeGlareTable _ n l => some (writeGlareTableOwner n l)
  | .writeSupervisionLimits _ t d o l => some (writeSupervisionLimitsOwner t d o l)
  | .setFaultPolicy _ p e => some (setFaultPolicyOwner p e)
  | _ => none

/-- The state after an owner that did not refuse. -/
def Answer.accepted (a : Answer) : Option State :=
  match a.reply with
  | some (.ok, _) => some a.state
  | some (.accepted, _) => some a.state
  | _ => none

/-- The parts of a PORT OPTIONS record (Table 11-1). -/
structure PortOptions where
  address : Option Nat
  alternation : Option Bool
  startRate : Option Rate
  deriving DecidableEq, Repr

/-- A value that is present when its marker says so. -/
def presentPart {α : Type} (marker : Bool) (a : α) : Option α := if marker = true then some a else none

/-- A PORT OPTIONS payload, none when it is irregular: its six bytes are judged whatever the markers (R178 (2) and (4)). -/
def readPortOptions (l : List Byte) : Option PortOptions :=
  match l.map BitVec.toNat with
  | [m1, a, m2, alt, m3, rate] =>
    match boolOfCode m1, boolOfCode m2, boolOfCode alt, boolOfCode m3, Rate.ofCode rate with
    | some p1, some p2, some b, some p3, some r =>
      if a < 8 ∨ 119 < a then none
      else some ⟨presentPart p1 a, presentPart p2 b, presentPart p3 r⟩
    | _, _, _, _, _ => none
  | _ => none

/-- The tether port under new options: they count from the next training attempt that begins (R164, R178; log 23). The
first attempt after a loss of lock keeps the rate of the lost link (R165). Without a start-rate part the offered rate stays as it
is, so a changed alternation counts from the next failed attempt (the model's choice, log 23). -/
def Tether.withOptions (t : Tether) (o : PortOptions) : Tether :=
  let u : Tether :=
    { t with startRate := o.startRate.getD t.startRate, alternation := o.alternation.getD t.alternation }
  if o.startRate.isSome = true ∧ u.link = .down ∧ u.lostLock = false ∧ u.alternation = false then
    { u with offered := u.startRate }
  else u

/-- Apply PORT OPTIONS: each present part replaces its setting (R178). -/
def applyPortOptions (o : PortOptions) (s : State) : State :=
  { s with tether := s.tether.withOptions o, service.address := o.address.getD s.service.address }

/-- The state after a stored record, none when it is irregular (R178); `first` says that it stands directly after the
header. -/
def applyStored (r : StoredRecord) (first : Bool) (s : State) : Option State :=
  if r.kind = portOptionsKind then
    (if first = true then (readPortOptions r.payload).map fun o => applyPortOptions o s else none)
  else if storedKinds.contains r.kind = true then
    match readRequest ⟨.service, 0⟩ r.kind r.payload with
    | none => none
    | some i => (storedOwner i).bind fun owner => (owner s).accepted
  else none

/-! ### The load (R177, R179) -/

/-- The whole image has been read: a bad one ends the load with DEFAULTS, a good one is applied record by record
(R177, R179). -/
def imageReadEnds (s : State) : State :=
  match s.store.load, s.store.fault, s.store.records with
  | .reading, some _, _ => loadEnd .defaults (raise .storeImageBad s)
  | .reading, none, [] => loadEnd .loaded s
  | .reading, none, l => { s with store.load := .applying l true 0 }
  | _, _, _ => s

/-- STORE_IMAGE_READ (R177). -/
def execStoreImageRead (s : State) : Host.Outcome State Fault Refusal := asEvent .storeImageRead imageReadEnds s

/-- The load goes on with the records left, or ends after the last one (R179). -/
def nextRecord (rest : List StoredRecord) (skipped : Nat) (s : State) : State :=
  match rest with
  | [] => loadEnd (if skipped = 0 then .loaded else .irregular) s
  | _ :: _ => { s with store.load := .applying rest false skipped }

/-- The next stored record is applied, or skipped as irregular (R178). -/
def recordApplies (s : State) : State :=
  match s.store.load with
  | .applying (r :: rest) first skipped =>
    match applyStored r first s with
    | some t => nextRecord rest skipped t
    | none => nextRecord rest (skipped + 1) (raise .storeImageIrregular s)
  | _ => s

/-- STORED_RECORD_APPLY (R178). -/
def execStoredRecordApply (s : State) : Host.Outcome State Fault Refusal := asEvent .storedRecordApply recordApplies s

/-! ### Store Write Page and Store Read Page (R180) -/

/-- Store Write Page (R180). -/
def storeWritePageOwner (p : Port) (page : Nat) (l : List Byte) (s : State) : Answer :=
  if p = .tether then refuse .refusedPrivilege s
  else if s.mode = .run then refuse .refusedMode s
  else if 2047 < page then refuse .outOfRange s
  else if s.store.op.isSome = true then refuse .opInProgress s
  else acceptedWith [] { s with store.op := some (.pageWrite page l) }

/-- STORE_WRITE_PAGE (R180). -/
def execStoreWritePage (q : Req) (page : Nat) (l : List Byte) (s : State) : Host.Outcome State Fault Refusal :=
  ownedRequest q (.storeWritePage q page l) (storeWritePageOwner q.port page l) s

/-- Store Read Page (R180). -/
def storeReadPageOwner (page : Nat) (s : State) : Answer :=
  if 2047 < page then refuse .outOfRange s
  else if s.store.op.isSome = true then refuse .opInProgress s
  else okWith (s.store.bytes (256 * page) 256) s

/-- STORE_READ_PAGE (R180). -/
def execStoreReadPage (q : Req) (page : Nat) (s : State) : Host.Outcome State Fault Refusal :=
  ownedRequest q (.storeReadPage q page) (storeReadPageOwner page) s

/-- A page write ends (R180); without one in flight it cannot (log 3). -/
def pageWriteEnds (s : State) : State :=
  match s.store.op with
  | some (.pageWrite page l) => { s with store := s.store.withPage page l }
  | _ => s

/-- PAGE_WRITE_END (R180). -/
def execPageWriteEnd (s : State) : Host.Outcome State Fault Refusal := asEvent .pageWriteEnd pageWriteEnds s

/-! ### Store Check (R181) -/

/-- Store Check: a check begins, and its reply is delayed (R169, R181). -/
def storeCheckOwner (q : Req) (s : State) : Answer :=
  if s.store.op.isSome = true then refuse .opInProgress s
  else ⟨none, { s with store.op := some (.check q) }⟩

/-- STORE_CHECK (R181). -/
def execStoreCheck (q : Req) (s : State) : Host.Outcome State Fault Refusal :=
  ownedRequest q (.storeCheck q) (storeCheckOwner q) s

/-- A record is irregular by the checks that depend on it alone: judged against the reset state, in which no check that
depends on earlier records refuses it (R181; log 25). -/
def irregularAlone (r : StoredRecord) (first : Bool) : Bool := (applyStored r first State.reset).isNone

/-- The positions, counted from 1, of the irregular records of a list. -/
def irregularPositions (l : List StoredRecord) : List Nat :=
  (l.zipIdx.filter fun p => irregularAlone p.1 (p.2 == 0)).map fun p => p.2 + 1

/-- The CRC-32 that a check reports as computed: free when the image length reaches beyond the flash (log 25). -/
def Store.computedCrc (x : Store) (stamp : Nat) : Nat :=
  if maxImage < x.header.length then Config.freeCheckCrc stamp % 4294967296 else crc32 x.body

/-- The verdict BAD, IRREGULAR or CLEAN, and the condition that failed first, a part present for BAD (R167, R181 (1) and
(2); log 18). -/
def verdictData (fault : Option Nat) (irregular : List Nat) : List Byte :=
  match fault with
  | some n => u8 0 ++ optionalPart u8 (some (n - 1))
  | none => u8 (if irregular.isEmpty = true then 2 else 1) ++ optionalPart u8 none

/-- The reply data of Store Check (R181). The position of the first irregular record is a present-or-absent part, whose absence
is the mark that there is none (R181 (5); the model's choice, log 18). -/
def checkData (x : Store) (stamp : Nat) : List Byte :=
  verdictData x.fault (irregularPositions x.records) ++
  u16 x.header.format ++ u32 x.header.length ++ u16 x.header.count ++ u32 x.header.crc ++ u32 (x.computedCrc stamp) ++
  u16 x.records.length ++ u16 (irregularPositions x.records).length ++
  optionalPart u16 (irregularPositions x.records).head?

/-- A check ends: its reply is produced (R169, R181); without one running it cannot (log 3). -/
def checkEnds (s : State) : State :=
  match s.store.op with
  | some (.check q) =>
    answer q (.storeCheck q)
      (okWith (checkData s.store s.freeCount) { s with store.op := none, freeCount := s.freeCount + 1 })
  | _ => s

/-- STORE_CHECK_END (R181). -/
def execStoreCheckEnd (s : State) : Host.Outcome State Fault Refusal := asEvent .storeCheckEnd checkEnds s

end Sys2Proof.Machine
end

