-- ==== Sys2Proof/Machine/Dispatch.lean ====
section
/-! DEFINITION. Each command's meaning: one arm per constructor of Instr, one direct call each. -/

namespace Sys2Proof.Machine

/-- The effect of a command on everything but the queue of waiting commands. -/
def exec (i : Instr) (s : State) : Host.Outcome State Fault Refusal :=
  match i with
  | .powerOn straps => Sys2Proof.Machine.execPowerOn straps s
  | .externalReset straps => Sys2Proof.Machine.execExternalReset straps s
  | .recordReceived port addr bytes => Sys2Proof.Machine.execRecordReceived port addr bytes s
  | .serviceRead addr count => Sys2Proof.Machine.execServiceRead addr count s
  | .unknownKind q kind => Sys2Proof.Machine.execUnknownKind q kind s
  | .queryStatus q => Sys2Proof.Machine.execQueryStatus q s
  | .enterSetup q => Sys2Proof.Machine.execEnterSetup q s
  | .enterRun q => Sys2Proof.Machine.execEnterRun q s
  | .restart q => Sys2Proof.Machine.execRestart q s
  | .restartReplyTimeout => Sys2Proof.Machine.execRestartReplyTimeout s
  | .setTiming q period pattern index => Sys2Proof.Machine.execSetTiming q period pattern index s
  | .writeExposureTable q entries => Sys2Proof.Machine.execWriteExposureTable q entries s
  | .pinFrame q target => Sys2Proof.Machine.execPinFrame q target s
  | .releaseFrame q target => Sys2Proof.Machine.execReleaseFrame q target s
  | .queryFrames q => Sys2Proof.Machine.execQueryFrames q s
  | .writeSectorMap q entries => Sys2Proof.Machine.execWriteSectorMap q entries s
  | .writeStatisticsSettings q glareLevel hotThreshold => Sys2Proof.Machine.execWriteStatisticsSettings q glareLevel hotThreshold s
  | .writeToneSegment q segment entries => Sys2Proof.Machine.execWriteToneSegment q segment entries s
  | .queryStatistics q => Sys2Proof.Machine.execQueryStatistics q s
  | .readMapRegion q r => Sys2Proof.Machine.execReadMapRegion q r s
  | .readMapRegionLinked q r => Sys2Proof.Machine.execReadMapRegionLinked q r s
  | .writeMapRegion q r entries => Sys2Proof.Machine.execWriteMapRegion q r entries s
  | .writeMapRegionConditional q r entries => Sys2Proof.Machine.execWriteMapRegionConditional q r entries s
  | .setDarkRefresh q enable shift => Sys2Proof.Machine.execSetDarkRefresh q enable shift s
  | .startDarkAcquisition q frames => Sys2Proof.Machine.execStartDarkAcquisition q frames s
  | .startFlatFieldAcquisition q frames target => Sys2Proof.Machine.execStartFlatFieldAcquisition q frames target s
  | .abortAcquisition q => Sys2Proof.Machine.execAbortAcquisition q s
  | .writeProfile q selector d => Sys2Proof.Machine.execWriteProfile q selector d s
  | .readProfile q selector => Sys2Proof.Machine.execReadProfile q selector s
  | .setProfileLimit q limit => Sys2Proof.Machine.execSetProfileLimit q limit s
  | .writeRadialTable q table entries => Sys2Proof.Machine.execWriteRadialTable q table entries s
  | .readRadialTable q table => Sys2Proof.Machine.execReadRadialTable q table s
  | .bindView q slot selector => Sys2Proof.Machine.execBindView q slot selector s
  | .queryViews q => Sys2Proof.Machine.execQueryViews q s
  | .reviewFrame q tag slot => Sys2Proof.Machine.execReviewFrame q tag slot s
  | .writeChannelTable q channel c => Sys2Proof.Machine.execWriteChannelTable q channel c s
  | .writeRingBudget q budget => Sys2Proof.Machine.execWriteRingBudget q budget s
  | .writeBalanceSettings q b => Sys2Proof.Machine.execWriteBalanceSettings q b s
  | .writeGlareTable q segment entries => Sys2Proof.Machine.execWriteGlareTable q segment entries s
  | .setDrive q codes => Sys2Proof.Machine.execSetDrive q codes s
  | .queryBalance q => Sys2Proof.Machine.execQueryBalance q s
  | .writeSupervisionLimits q total dimCount offCount openLevel => Sys2Proof.Machine.execWriteSupervisionLimits q total dimCount offCount openLevel s
  | .queryTrip q => Sys2Proof.Machine.execQueryTrip q s
  | .queryFaults q => Sys2Proof.Machine.execQueryFaults q s
  | .clearFaults q kinds => Sys2Proof.Machine.execClearFaults q kinds s
  | .setFaultPolicy q policy lineEnable => Sys2Proof.Machine.execSetFaultPolicy q policy lineEnable s
  | .queryHead q => Sys2Proof.Machine.execQueryHead q s
  | .storeWritePage q page bytes => Sys2Proof.Machine.execStoreWritePage q page bytes s
  | .storeReadPage q page => Sys2Proof.Machine.execStoreReadPage q page s
  | .storeCheck q => Sys2Proof.Machine.execStoreCheck q s
  | .pageWriteEnd => Sys2Proof.Machine.execPageWriteEnd s
  | .storeCheckEnd => Sys2Proof.Machine.execStoreCheckEnd s
  | .storeImageRead => Sys2Proof.Machine.execStoreImageRead s
  | .storedRecordApply => Sys2Proof.Machine.execStoredRecordApply s
  | .frameStart => Sys2Proof.Machine.execFrameStart s
  | .exposureEnd samples => Sys2Proof.Machine.execExposureEnd samples s
  | .sensorRow pixels => Sys2Proof.Machine.execSensorRow pixels s
  | .readoutCompletionLit => Sys2Proof.Machine.execReadoutCompletionLit s
  | .readoutCompletionDark => Sys2Proof.Machine.execReadoutCompletionDark s
  | .sensorTimeout => Sys2Proof.Machine.execSensorTimeout s
  | .warpTileComplete faulty => Sys2Proof.Machine.execWarpTileComplete faulty s
  | .imageRecordPlace => Sys2Proof.Machine.execImageRecordPlace s
  | .buildCompletion view => Sys2Proof.Machine.execBuildCompletion view s
  | .recordSent => Sys2Proof.Machine.execRecordSent s
  | .linkTrainingSuccess => Sys2Proof.Machine.execLinkTrainingSuccess s
  | .linkTrainingFailure => Sys2Proof.Machine.execLinkTrainingFailure s
  | .retrainTimerExpiry => Sys2Proof.Machine.execRetrainTimerExpiry s
  | .linkLoss => Sys2Proof.Machine.execLinkLoss s
  | .expanderInterrupt active => Sys2Proof.Machine.execExpanderInterrupt active s
  | .pollTimerExpiry => Sys2Proof.Machine.execPollTimerExpiry s
  | .confirmationTimerExpiry input => Sys2Proof.Machine.execConfirmationTimerExpiry input s
  | .inputReadEnd acknowledged values started => Sys2Proof.Machine.execInputReadEnd acknowledged values started s
  | .supplyWriteEnd acknowledged => Sys2Proof.Machine.execSupplyWriteEnd acknowledged s
  | .setUpWriteEnd acknowledged => Sys2Proof.Machine.execSetUpWriteEnd acknowledged s

end Sys2Proof.Machine
end

