-- ==== Sys2Proof/Machine/Step.lean ====
section
/-! DEFINITION. One step: the command at the front of the queue, or, with no command waiting, the Dispatcher's taking of the
next waiting request (R169; log 2). -/

namespace Sys2Proof.Machine

/-- The port the Dispatcher serves next, none when no port may be served (R169): the ready one, or of two ready ones the
one not served last. -/
def State.nextPort (s : State) : Option Port :=
  if s.mayTake .tether = true ∧ s.ready .tether = true then some .tether
  else if s.mayTake .service = true ∧ s.ready .service = true then some .service
  else none

/-- The Dispatcher answers a request whose payload has a wrong length (R169 (2)). Nothing reaches an owner: a malformed Write Map
Region Conditional leaves its port's link (the model's choice, log 48). -/
def answerMalformed (p : Port) (kind tag : Nat) (s : State) : State :=
  pushReply p ⟨replyKind kind, tag, u8 Code.malformed.value⟩ (s.taken p)

/-- The Dispatcher's work with no command waiting: it takes the next request that waits at a port, or idles (R169; log 2). -/
def dispatchNext (s : State) : Host.Outcome State Fault Refusal :=
  match s.nextPort with
  | none => .next s
  | some p =>
    match s.queueOf p with
    | [] => .next s
    | .request i :: _ => exec i s
    | .malformed kind tag :: _ => .next (answerMalformed p kind tag s)

/-- One step. -/
def step (s : State) : Host.Outcome State Fault Refusal :=
  match s.pending with
  | i :: rest => exec i { s with pending := rest }
  | [] => dispatchNext s

/-- The state with the command that a word spells put at the front of the queue, unchanged when it spells none. -/
def State.withFetchWord (s : State) (nbits w : Nat) : State :=
  match decodeTableWord nbits w with
  | some i => { s with pending := i :: s.pending }
  | none => s

end Sys2Proof.Machine
end

