-- ==== Sys2Proof/Safety.lean ====
section
/-! DEFINITION. What a safe state is, in the terms the statements use: properties of a state that every step keeps, and what slots,
views and accumulators become in one event. -/

namespace Sys2Proof.Machine

/-- The pixels and the flash are in canonical form. -/
def State.memoryWf (s : State) : Prop := Memory.Wf 0 s.frameStore ∧ Memory.Wf blankByte s.store.flash

/-- One reply place is held for a delayed outcome (R168). -/
def State.heldPlaces (s : State) (p : Port) : Nat := if s.delayed p = true then 1 else 0

/-- No queue of a port holds more than its places, one reply place being held for a delayed outcome (R110, R168, R170,
R171). -/
def State.queuesBounded (s : State) : Prop :=
  s.tetherQueue.length ≤ Config.tetherRequestPlaces ∧
  s.serviceQueue.length ≤ Config.serviceRequestPlaces ∧
  s.tether.replies.length + s.heldPlaces .tether ≤ Config.tetherReplyPlaces ∧
  s.service.replies.length + s.heldPlaces .service ≤ Config.serviceReplyPlaces ∧
  s.tether.notices.length ≤ Config.noticePlaces ∧
  s.tether.images.length ≤ Config.imagePlaces

/-- While the link is not UP nothing is queued or under way at the transmitter, and a warp that runs or closes discards its
records (R111, R165, R169, R170). -/
def State.quietWhenDown (s : State) : Prop :=
  s.tether.link ≠ .up →
    s.tether.sending = none ∧ s.tether.replies = [] ∧ s.tether.notices = [] ∧ s.tether.images = [] ∧
    (s.warp.engine ≠ .idle → s.warp.discarding = true)

/-- The FAULT output is asserted exactly as R162 says. -/
def State.lineFormed (s : State) : Prop := s.faults.line = s.faults.asserted

/-- A channel's drives are in order and its state agrees with its enabled field (R115). -/
def Channel.ordered (c : Channel) : Prop :=
  c.dmin ≤ c.start ∧ c.start ≤ c.dmax ∧ c.dmax ≤ 1023 ∧ (c.state = .disabled ↔ c.enabled = false)

/-- A drive code is allowed for its channel in a ring state (R119). -/
def codeAllowed (x : RingState) (c : Channel) (d : Nat) : Prop :=
  d ≤ c.dmax ∧
  (c.usable = false → d = 0) ∧
  (x = .off ∨ x = .lockedOff ∨ x = .absent → d = 0) ∧
  (c.usable = true → x = .lit → c.dmin ≤ d) ∧
  (c.usable = true → x = .dim → d = c.dmin)

/-- The drive codes keep to the channels and to the effective budget (R119), the ring is OFF exactly outside RUN
(Table 7-2), and a load is in progress in BOOT only (R177, R179). -/
structure State.ringSafe (s : State) : Prop where
  channels : s.ring.channels.length = 12 ∧ ∀ c ∈ s.ring.channels, c.ordered
  codes : s.ring.codes.length = 12 ∧
    ∀ p ∈ List.zip s.ring.channels s.ring.codes, codeAllowed s.ring.state p.1 p.2
  budget : s.ring.codes.sum ≤ s.ring.effective
  off : s.ring.state = .off ↔ s.mode ≠ .run
  copy : s.sup.ring = s.ring.state
  loading : s.store.load ≠ .idle → s.mode = .boot

/-! ### Frame slots, warp entries, profiles and mesh buffers -/

/-- The Frame Store's slots agree with the capture, the held list and the pins: outside RUN the capture is STOPPED; exactly an
exposure or readout has a frame; the FILLING slot is exactly the one that the frame, a lit one, has claimed with its tag; the
held list names exactly the HELD slots, each once; a FREE slot is not pinned, a HELD one is pinned or has outstanding entries; an
attached next pin is not pending as well, and there are at most two pins (R7, R8, R10, R13, R17, R21). -/
def State.slotsWell (s : State) : Prop :=
  s.slots.length = 4 ∧ (s.store.load ≠ .idle → s.mode = .boot) ∧
  (s.mode ≠ .run → s.capture.mode = .stopped) ∧
  (s.capture.frame.isSome = true ↔ s.capture.mode = .exposing ∨ s.capture.mode = .readout) ∧
  (∀ f ∈ s.capture.frame, (∀ n ∈ f.slot, n < 4 ∧ f.cls = .lit ∧ (s.slot n).tag = f.tag) ∧ (f.views.map (·.view)).Nodup) ∧
  (∀ n, n < 4 → ((s.slot n).state = .filling ↔ s.capture.frame.bind (·.slot) = some n)) ∧
  s.held.Nodup ∧ (∀ n ∈ s.held, n < 4) ∧ (∀ n, n < 4 → ((s.slot n).state = .held ↔ n ∈ s.held)) ∧
  (∀ n, n < 4 → (s.slot n).state = .free → (s.slot n).pinned = false) ∧
  (∀ n, n < 4 → (s.slot n).state = .held → (s.slot n).pinned = false → (s.slot n).count ≠ 0) ∧
  (∀ n, n < 4 → (s.slot n).state = .filling → (s.slot n).pinned = true → s.nextPin = false) ∧ s.pins ≤ 2

/-- The warp work queue keeps to its limits: every entry names a HELD slot with its tag, the outstanding count of a slot is the
number of its entries, no slot has two live entries for one view, there are at most two reviews and ten entries, and live
entries stand in RUN only; the engine runs over the head of the queue, is idle over an empty queue only, has a record waiting
only while it runs and keeps records, and a FRAME END owed exactly while it closes (R8, R97, R99, R101, R103, R110, R113). -/
def State.warpsWell (s : State) : Prop :=
  (∀ e ∈ s.warp.queue, e.slot < 4 ∧ (s.slot e.slot).state = .held ∧ (s.slot e.slot).tag = e.tag) ∧
  (∀ n, n < 4 → (s.slot n).count = s.warp.queue.countP (·.slot == n)) ∧
  ((s.warp.queue.filter (·.purpose == .live)).map fun e => (e.slot, e.view)).Nodup ∧
  s.warp.queue.countP (·.purpose == .review) ≤ 2 ∧ s.warp.queue.length ≤ 10 ∧
  (∀ e ∈ s.warp.queue, e.purpose = .live → s.mode = .run) ∧
  (s.warp.engine = .running → s.warp.queue ≠ []) ∧ (s.warp.engine = .idle → s.warp.queue = []) ∧
  (s.warp.waiting ≠ .nothing → s.warp.engine = .running ∧ s.warp.discarding = false) ∧
  (s.warp.owed.isSome = true ↔ s.warp.engine = .closing)

/-- Frame slots and warp entries are in order. -/
def State.framesWell (s : State) : Prop := s.slotsWell ∧ s.warpsWell

/-- The Profile Table: 32 profiles, 8 radial tables and holds, a limit of 1 to 32; every profile names one of the tables, a
marked one is present, has a selector from 1 to below the limit, and is RADIAL when slot A marks it; a table's hold count is
the number of marked profiles that use it (R64, R68, R69, R72, R73). -/
def State.tableWell (s : State) : Prop :=
  s.table.profiles.length = 32 ∧ s.table.radial.length = 8 ∧ s.table.holds.length = 8 ∧
  1 ≤ s.table.limit ∧ s.table.limit ≤ 32 ∧
  (∀ n, n < 32 → (s.profile n).table < 8 ∧
    ((s.profile n).mark ≠ .none → n ≠ 0 ∧ n < s.table.limit ∧ (s.profile n).present = true ∧
      ((s.profile n).mark ∈ [.aActive, .aPending] → (s.profile n).kind = .radial))) ∧
  ∀ k, k < 8 → s.hold k = s.table.profiles.countP fun p => p.mark != .none && p.table == k

/-- The uses of a mesh buffer: the warp entries that name it and the noted view of the frame in flight (R84). -/
def State.usesOf (s : State) (v : View) (b : Nat) : Nat :=
  s.warp.queue.countP (fun e => e.view == v && e.buffer == b) +
  ((s.capture.frame.map (·.views)).getD []).countP fun n => n.view == v && n.buffer == b

/-- What the state of a mesh buffer says of its view slot: FREE, no selector and no use; BUILDING or READY, the selector of a
pending change whose build is in that state, and no use; ACTIVE, the slot's active selector; RETIRING, still in use. -/
def MeshBuffer.agrees (m : MeshBuffer) (x : ViewSlot) : Prop :=
  match m.state with
  | .free => m.selector = none ∧ m.uses = 0
  | .building => ∃ n ∈ m.selector, x.pending = .profile n .building ∧ m.uses = 0
  | .ready => ∃ n ∈ m.selector, x.pending = .profile n .ready ∧ m.uses = 0
  | .active => m.selector = some x.active ∧ x.active ≠ 0
  | .retiring => m.selector.isSome = true ∧ 0 < m.uses

/-- A view slot, its marks and its two buffers: a profile has the slot's active or pending mark exactly when its selector is
the slot's active or pending one; the slot is null exactly without an ACTIVE buffer, and else that buffer alone is ACTIVE; a
WAITING build has no FREE buffer, and one that is BUILDING or READY has exactly one buffer in that state; READY and UNBIND stand
in RUN only; the buffers' uses are those of the entries and the frame, at most 7, and an entry's buffer holds its selector
(R72, R73, R77, R78, R83 to R89). -/
def State.viewWell (s : State) (v : View) : Prop :=
  let x := s.view v
  let states := [x.buffer0.state, x.buffer1.state]
  (∀ n, n < 32 → ((s.profile n).mark = activeMark v ↔ n ≠ 0 ∧ x.active = n)) ∧ x.active < 32 ∧
  (∀ n, n < 32 → ((s.profile n).mark = pendingMark v ↔ x.pendingSelector = some n)) ∧ (∀ n ∈ x.pendingSelector, n < 32) ∧
  (x.active = 0 ↔ x.activeBuffer = none) ∧
  (∀ b, b < 2 → (x.activeBuffer = some b ↔ (x.buffer b).state = .active)) ∧ (∀ b ∈ x.activeBuffer, b < 2) ∧
  x.buffer0.agrees x ∧ x.buffer1.agrees x ∧
  (match x.pending with
    | .absent => True
    | .unbind => x.active ≠ 0 ∧ s.mode = .run
    | .profile _ .waiting => .free ∉ states
    | .profile _ .building => states.count .building = 1
    | .profile _ .ready => states.count .ready = 1 ∧ s.mode = .run) ∧
  (∀ b, b < 2 → (x.buffer b).uses = s.usesOf v b ∧ (x.buffer b).uses ≤ 7) ∧
  (∀ e ∈ s.warp.queue, e.view = v → e.buffer < 2 ∧ (x.buffer e.buffer).selector = some e.selector) ∧
  (∀ f ∈ s.capture.frame, ∀ n ∈ f.views, n.view = v → n.buffer < 2 ∧ (x.buffer n.buffer).selector = some n.selector)

/-- Profiles, view slots and mesh buffers are in order. -/
def State.viewsWell (s : State) : Prop := s.tableWell ∧ s.viewWell .a ∧ s.viewWell .b

/-! ### What frame slots, view slots and mesh buffers become in one event -/

/-- A mesh buffer after its profile has left: FREE without a use, else RETIRING (R89; the node count is log 44's). -/
def MeshBuffer.retired (m : MeshBuffer) : MeshBuffer :=
  if m.uses = 0 then { m with state := .free, selector := none, nodeCount := 0, uses := 0 } else { m with state := .retiring }

/-- A mesh buffer after its slot's build is abandoned: BUILDING or READY becomes FREE, another stays (R88; log 44). -/
def MeshBuffer.givenUp (m : MeshBuffer) : MeshBuffer :=
  if m.state = .building ∨ m.state = .ready then { m with state := .free, selector := none, nodeCount := 0, uses := 0 } else m

/-- A mesh buffer in which a build of profile `n` begins (R85). -/
def MeshBuffer.begun (m : MeshBuffer) (n : Nat) (p : Profile) : MeshBuffer :=
  { m with state := .building, selector := some n, nodeCount := (2 * p.width + 1) * (2 * p.height + 1), uses := 0 }

/-- From `s` to `t` the profiles' marks become those of `mark`, the hold counts of the radial tables follow them (R73), and
besides view slot `v` and the notices nothing else changes. -/
def slotChanges (v : View) (mark : Nat → Mark) (s t : State) : Prop :=
  (∀ k, t.profile k = { s.profile k with mark := mark k }) ∧
  (∀ k, k < 8 → t.hold k = t.table.profiles.countP fun p => p.mark != .none && p.table == k) ∧
  t.table.radial = s.table.radial ∧ t.table.limit = s.table.limit ∧ (∀ w, w ≠ v → t.view w = s.view w) ∧
  t = { s with table := t.table, viewA := t.viewA, viewB := t.viewB, tether := t.tether }

/-- View slot `v` adopts profile `n`, whose mesh is in buffer `b` (R77 (1), R79, R89): selector and buffer active, no pending
change left, the mark active; the profile that was active loses its mark, and its buffer is retired; VIEW READY. -/
def slotAdopts (v : View) (n b : Nat) (s t : State) : Prop :=
  let x := s.view v
  slotChanges v (fun k => if k = n then (if v = .a then .aActive else .bActive)
    else if k = x.active ∧ k ≠ 0 then .none else (s.profile k).mark) s t ∧
  t.tether = s.tether.pushNotice ⟨0xF2, 0, u8 v.code ++ u8 n⟩ ∧
  (t.view v).active = n ∧ (t.view v).activeBuffer = some b ∧ (t.view v).pending = .absent ∧
  (t.view v).buffer b = { x.buffer b with state := .active } ∧
  (t.view v).buffer (1 - b) = if x.activeBuffer = some (1 - b) then (x.buffer (1 - b)).retired else x.buffer (1 - b)

/-- View slot `v` becomes null (R76 (3), R77 (3), R79, R89): its profile loses its mark, its ACTIVE buffer is retired, and
VIEW READY carries selector 0. -/
def slotBecomesNull (v : View) (s t : State) : Prop :=
  let x := s.view v
  slotChanges v (fun k => if k = x.active ∧ k ≠ 0 then .none else (s.profile k).mark) s t ∧
  t.tether = s.tether.pushNotice ⟨0xF2, 0, u8 v.code ++ u8 0⟩ ∧
  (t.view v).active = 0 ∧ (t.view v).activeBuffer = none ∧ (t.view v).pending = .absent ∧
  ∀ b, b < 2 → (t.view v).buffer b = if x.activeBuffer = some b then (x.buffer b).retired else x.buffer b

/-- The pending change PROFILE of view slot `v` with selector `m` is cancelled: the profile loses its mark, and its build is
abandoned (R74 (7), R75, R76 (1), R88). -/
def profileWithdrawn (v : View) (m : Nat) (s t : State) : Prop :=
  slotChanges v (fun k => if k = m then .none else (s.profile k).mark) s t ∧ t.tether = s.tether ∧
  t.view v = { s.view v with
    pending := .absent, buffer0 := (s.view v).buffer0.givenUp, buffer1 := (s.view v).buffer1.givenUp }

/-- A pending change PROFILE of view slot `v` is cancelled as above, and another pending change stays. -/
def withoutProfile (v : View) (s t : State) : Prop :=
  match (s.view v).pending with
  | .profile m _ => profileWithdrawn v m s t
  | _ => t = s

/-- View slot `v` has a new pending change PROFILE with selector `n`: the profile is marked pending, and its build begins in the
lowest FREE buffer or waits for one (R73, R75, R85). -/
def profileBecomesPending (v : View) (n : Nat) (s t : State) : Prop :=
  let x := s.view v
  slotChanges v (fun k => if k = n then (if v = .a then .aPending else .bPending) else (s.profile k).mark) s t ∧
  t.tether = s.tether ∧
  t.view v =
    if x.buffer0.state = .free then
      { x with pending := .profile n .building, buffer0 := x.buffer0.begun n (s.profile n) }
    else if x.buffer1.state = .free then
      { x with pending := .profile n .building, buffer1 := x.buffer1.begun n (s.profile n) }
    else { x with pending := .profile n .waiting }

/-- View slot `v` after a use of its buffer `b` has ended: one use less; a RETIRING buffer without a use left becomes FREE, and a
WAITING build begins in it (R84, R86, R89; log 44). -/
def State.viewAfterUse (s : State) (v : View) (b : Nat) : ViewSlot :=
  let x := s.view v
  let m := x.buffer b
  if m.state = .retiring ∧ m.uses ≤ 1 then
    match x.pending with
    | .profile n .waiting => { x with pending := .profile n .building }.setBuffer b (m.begun n (s.profile n))
    | _ => x.setBuffer b { m with state := .free, selector := none, nodeCount := 0, uses := 0 }
  else x.setBuffer b { m with uses := m.uses - 1 }

/-- The state after a warp entry has ended, its place in the queue apart (R8, R104): the outstanding count of its slot is one
less, a HELD slot that is not pinned and has none left is FREE and leaves the held list, and the use of its buffer ends. -/
def State.entryEnded (s : State) (e : WarpEntry) : State :=
  let x := s.slot e.slot
  let t : State :=
    if x.state = .held ∧ x.pinned = false ∧ x.count ≤ 1 then
      { s with
        slots := s.slots.modify e.slot fun y => { y with state := .free, pinned := false, count := 0 }
        held := s.held.filter fun n => n ≠ e.slot }
    else { s with slots := s.slots.modify e.slot fun y => { y with count := y.count - 1 } }
  t.setView e.view (s.viewAfterUse e.view e.buffer)

/-- The frame of a LIVE entry is counted as skipped for its view, the count staying at 65535; a review is not counted (R15 (4),
R111). -/
def State.skipCounted (s : State) (e : WarpEntry) : State :=
  if e.purpose = .live then s.setSkip e.view (min 65535 (s.skip e.view + 1)) else s

/-- The Head Input Monitor as a supply write of `v` is asked for (R155): SILENT, it does nothing; on an idle master the write
starts at once; with a write of that value in flight, a set-up write included (log 46), a pending write is dropped; else the
write becomes the pending one. -/
def Head.supplyAsked (v : Bool) (h : Head) : Head :=
  if h.silent = true then h
  else if h.transfer = none then { h with transfer := some (.supplyWrite v), retried := false }
  else if h.transfer = some (.supplyWrite v) ∨ h.transfer = some (.setUp v) then { h with pendingWrite := none }
  else { h with pendingWrite := some v }

/-- From `s` to `t` a frame start begins an exposure, tag and pattern position apart: the pending settings are applied, the
frame is classed, the acquisition in flight noted as its mark, the index in effect formed and the maps latched; a lit frame
claims the lowest FREE slot with its tag and a pending next pin, or without one is counted as skipped for each of its views
over the counts `skip`; the view slots act on their pending changes, and the active views are noted with a use of their
buffers (R1 to R4, R10, R15, R27, R51, R77, R84, R98). -/
def frameBegins (skip : View → Nat) (s t : State) : Prop :=
  let lit := t.capture.latestClass = some .lit
  t.capture.mode = .exposing ∧ t.capture.rows = 0 ∧
  t.capture.period = s.capture.pendingPeriod.getD s.capture.period ∧ t.capture.pendingPeriod = none ∧
  t.capture.table = s.capture.pendingTable.getD s.capture.table ∧ t.capture.pendingTable = none ∧
  t.capture.pattern = s.capture.pendingPattern.getD s.capture.pattern ∧ t.capture.pendingPattern = none ∧
  (t.capture.index, t.capture.exposure) =
    exposureFor t.capture.table s.capture.requested ((t.capture.period + 1) * 10 - 2000) ∧
  t.capture.requested = s.capture.requested ∧
  t.cond = { s.cond with dark := s.cal.dark, gain := s.cal.gain, changed := false } ∧
  t.capture.latestClass =
    some (if s.cal.acq.any (fun a => a.kind == .dark) = true then .darkAcquisition
      else if t.capture.pattern.lit.testBit t.capture.position = true then .lit else .darkPattern) ∧
  (∃ f, t.capture.frame = some f ∧ f.tag = t.capture.tag ∧ some f.cls = t.capture.latestClass ∧
    t.capture.latestAcq = t.cal.acq.map (fun a => (a.kind, a.number)) ∧ f.acq = t.capture.latestAcq ∧
    f.record = ⟨t.capture.index, t.ring.state, t.ring.trip⟩ ∧
    (∀ n, lit → s.firstFree = some n → f.slot = some n ∧ t.nextPin = false ∧
      t.slots = s.slots.modify n fun x => { x with state := .filling, tag := t.capture.tag, pinned := s.nextPin, count := 0 }) ∧
    (¬ lit ∨ s.firstFree = none → f.slot = none ∧ t.nextPin = s.nextPin ∧ t.slots = s.slots) ∧
    ∀ v, let x := (adoptViews s).view v
      (x.active = 0 → t.view v = x ∧ ∀ n ∈ f.views, n.view ≠ v) ∧
      (∀ b, x.active ≠ 0 → x.activeBuffer = some b →
        t.view v = x.setBuffer b { x.buffer b with uses := (x.buffer b).uses + 1 } ∧
        f.views.filter (·.view = v) = [⟨v, x.active, b, ((adoptViews s).profile x.active).copy⟩])) ∧
  (∀ v, t.skip v =
    if lit ∧ s.firstFree = none ∧ (t.view v).active ≠ 0 then min 65535 (skip v + 1) else skip v) ∧
  t.table = (adoptViews s).table

/-- The accumulators of a lit frame after the raw row `l` (R31): per sector the sum, the number and the number of hot pixels of
its conditioned pixels, and per zone the sum of the dark-subtracted values; `a` before, `b` after. -/
def State.accumulates (s : State) (l : List Nat) (a b : Accumulators) : Prop :=
  let y := s.capture.rows
  let c := fun x => l.getD x 0 - s.cond.dark.getD (32 * (y / 32) + x / 32) 0
  let v := fun x => min 4095 ((c x * interpolateGain s.cond.gain x y + 512) / 1024)
  let sector := fun k => (List.range 1024).filter fun x => s.cond.sectorMap.getD (32 * (y / 32) + x / 32) 12 == k
  b.sums.length = 12 ∧ b.counts.length = 12 ∧ b.hots.length = 12 ∧ b.zoneC.length = 1024 ∧
  (∀ k, k < 12 →
    b.sums.getD k 0 = a.sums.getD k 0 + ((sector k).map v).sum ∧
    b.counts.getD k 0 = a.counts.getD k 0 + (sector k).length ∧
    b.hots.getD k 0 = a.hots.getD k 0 + ((sector k).filter fun x => decide (s.cond.glareLevel ≤ v x)).length) ∧
  ∀ z, z < 1024 → b.zoneC.getD z 0 =
    if z / 32 = y / 32 then a.zoneC.getD z 0 + ((List.range 32).map fun i => c (32 * (z % 32) + i)).sum
    else a.zoneC.getD z 0

/-! ### Requests and records -/

/-- A waiting request is one that bytes can carry. -/
def Waiting.readable : Waiting → Prop
  | .request i => i.wellFormed = true ∧ (requestKind i).isSome = true
  | .malformed _ _ => True

/-- Every command that waits is well formed, and every request that waits at a port came from bytes. -/
def State.commandsReadable (s : State) : Prop :=
  (∀ i ∈ s.pending, i.wellFormed = true) ∧ (∀ w ∈ s.tetherQueue, w.readable) ∧ (∀ w ∈ s.serviceQueue, w.readable)

/-- The Dispatcher takes this well-formed request in this step, with the load over: what its owner does is then its
effect (R168, R169). -/
abbrev State.serves (s : State) (q : Req) (i : Instr) : Prop := i.wellFormed = true ∧ s.takes q i = true ∧ s.mode ≠ .boot

/-- The state with a reply of the given kind at the port of the request: its tag, a result code and the reply's data
(R166, R169). -/
def replied (q : Req) (kind : Nat) (c : Code) (data : List Byte) (s : State) : State :=
  pushReply q.port ⟨kind, q.tag, u8 c.value ++ data⟩ s

/-- A record whose fields fit the bytes that carry it (R166). -/
def Record.fits (r : Record) : Prop := r.kind < 256 ∧ r.tag < 256 ∧ r.payload.length ≤ 2048

end Sys2Proof.Machine
end

