-- ==== Sys2Proof/Certificates/Slice0/Obligations.lean ====
section
/-! DEFINITION. The statements for the provers, from the numbered rules of spec/. -/

section

open Sys2Proof Sys2Proof.Machine

/-! ### The machine -/

/-- A step with a command at the front of the queue runs that command on the state with the queue's rest (the queue is the
model's own, log 2). -/
def Obligations.StepRunsFrontCommand : Prop :=
  ∀ (c : Instr) (rest : List Instr) (s : State), step { s with pending := c :: rest } = exec c { s with pending := rest }

/-- With no command waiting the Dispatcher takes the next request (R169): the head of the queue of a port that is ready, and
when both are ready that of the port not served last; it answers a request of a wrong length, and takes nothing while no
port is ready or a restart is pending. That an empty queue runs the Dispatcher is the model's choice (log 2), and so is that a
malformed request has no effect but its reply (log 48). -/
def Obligations.EmptyQueueTakesNextRequest : Prop :=
  ∀ (s : State) (p : Port), s.pending = [] →
    (s.restartPending ≠ none → step s = .next s) ∧
    (s.ready .tether = false ∧ s.ready .service = false → step s = .next s) ∧
    (s.restartPending = none → s.ready p = true → (s.ready p.other = true → s.lastServed = p.other) →
      (∀ i l, s.queueOf p = .request i :: l → step s = exec i s) ∧
      (∀ kind tag l, s.queueOf p = .malformed kind tag :: l →
        step s = .next (pushReply p ⟨replyKind kind, tag, u8 0x03⟩ { s.setQueue p l with lastServed := p })))

/-- Every command whose operands fit what carries them answers a next state, and every other one is refused as ill formed
(the model's choice, log 32). -/
def Obligations.WellFormedCommandsRun : Prop :=
  ∀ (i : Instr) (s : State),
    if i.wellFormed = true then ∃ t, exec i s = .next t else exec i s = .refused .illFormed

/-- While every waiting command is well formed and every waiting request came from bytes, a step never faults and is never
refused: it answers a next state, in which the same holds. -/
def Obligations.CommandsStayReadable : Prop :=
  ∀ s : State, s.commandsReadable → ∃ t, step s = .next t ∧ t.commandsReadable

/-- Every step keeps the pixels of the Frame Store and the flash in canonical form. -/
def Obligations.MemoryStaysCanonical : Prop :=
  ∀ s t : State, s.memoryWf → step s = .next t → t.memoryWf

/-- No step puts more into a port's queue than its places, one reply place staying free for a delayed outcome (R110, R168 to
R171). -/
def Obligations.QueuesStayBounded : Prop :=
  ∀ s t : State, s.queuesBounded → step s = .next t → t.queuesBounded

/-- Every step leaves the transmitter and its queues empty while the link is not UP, and a warp that runs or closes then
discards its records (R111, R112, R165, R169, R170). -/
def Obligations.LinkDownStaysQuiet : Prop :=
  ∀ s t : State, s.quietWhenDown → step s = .next t → t.quietWhenDown

/-- Every step leaves the FAULT output asserted exactly while the line is enabled and some kind is SET, FATAL and unmasked
(R162). -/
def Obligations.FaultLineFollowsTable : Prop :=
  ∀ s t : State, s.lineFormed → step s = .next t → t.lineFormed

/-- Every step keeps the ring safe: the drive codes within the effective budget and their channels' drives, 0 for a channel
that is not usable and in OFF, LOCKED_OFF and ABSENT, dmin in DIM; the ring OFF exactly outside RUN; the supervisor's copy
of the ring state true; a load only in BOOT (R119, Table 7-2, R139, R177). -/
def Obligations.RingStaysSafe : Prop :=
  ∀ s t : State, s.ringSafe → step s = .next t → t.ringSafe

/-- Every step keeps the frame slots, the held list, the pins, the warp work queue, the bound marks, the hold counts, the view
slots and the mesh buffers in order: the FILLING slot is the one of the frame in flight, the held list names the HELD slots, at
most two pins, an outstanding count is the number of the slot's entries, at most one live entry for each slot and view and two
reviews, a mark names exactly its reference, a hold count is the number of marked profiles on the table, one buffer is ACTIVE for
each bound slot, a build has its buffer or waits with none FREE, and a buffer's uses are those of the entries and the frame (R7,
R8, R17, R69, R72, R73, R83, R84, R86, R89, R97, R113). -/
def Obligations.FramesAndViewsStayWell : Prop :=
  ∀ s t : State, s.framesWell → s.viewsWell → step s = .next t → t.framesWell ∧ t.viewsWell

/-- The state after reset has every one of these properties. -/
def Obligations.ResetIsSafe : Prop :=
  State.reset.commandsReadable ∧ State.reset.memoryWf ∧ State.reset.queuesBounded ∧ State.reset.quietWhenDown ∧
  State.reset.lineFormed ∧ State.reset.ringSafe ∧ State.reset.framesWell ∧ State.reset.viewsWell

/-! ### Records in and out -/

/-- The bytes of any records, one after another, arrive on an UP tether link with no part of a record held: every record is
found, in order, with its length, kind, tag, payload and check value read back, and its request joins the tail of the
request queue, which has the places; nothing else changes (R166, R168). -/
def Obligations.TetherReceivesRecords : Prop :=
  ∀ (l : List Record) (addr : Nat) (s : State),
    addr < 128 → s.tether.link = .up → s.tether.rx = [] → (∀ r ∈ l, r.fits) → s.tetherQueue.length + l.length ≤ 8 →
    exec (.recordReceived .tether addr (l.flatMap Record.bytes)) s =
      .next { s with tetherQueue := s.tetherQueue ++ l.map (readRecord .tether) }

/-- A write transaction of the service port at its address carries one record: its request joins the tail of the request
queue, which has a place, and bytes beyond the record are disregarded; a transaction that ends before the whole record
counts as a framing error; a transaction at another address, and bytes on a tether link that is not UP, change nothing
(R166, R171). A record for a full request queue of either port is answered QUEUE_FULL with its tag if the port's reply
queue has a free place beside the one held for a delayed outcome, and otherwise discarded and counted as a framing error
(R168). On the tether, bytes before a start byte are skipped, a record that is not yet whole waits for its other bytes, and a
record with a length above 2048 or a wrong check value is dropped and counted, the search going on from the byte after its
start byte; a service transaction that carries such a record, and no start byte after it, counts it (R166; log 21). -/
def Obligations.PortsReceiveRecords : Prop :=
  (∀ (r : Record) (extra : List Byte) (addr : Nat) (s : State), addr < 128 → r.fits →
     (addr = s.service.address → s.serviceQueue.length < 2 →
       exec (.recordReceived .service addr (r.bytes ++ extra)) s =
         .next { s with serviceQueue := s.serviceQueue ++ [readRecord .service r] }) ∧
     (addr = s.service.address → ∀ n, n < r.bytes.length →
       exec (.recordReceived .service addr (r.bytes.take n)) s =
         .next { s with service.errors := min 65535 (s.service.errors + 1) }) ∧
     (addr ≠ s.service.address → exec (.recordReceived .service addr extra) s = .next s) ∧
     (s.tether.link ≠ .up → exec (.recordReceived .tether addr extra) s = .next s)) ∧
  (∀ (r : Record) (addr : Nat) (s : State), addr < 128 → r.fits →
     (s.tether.link = .up → s.tether.rx = [] → 8 ≤ s.tetherQueue.length →
       exec (.recordReceived .tether addr r.bytes) s =
         .next (if s.tether.replies.length + s.heldPlaces .tether < 8 then
             pushReply .tether ⟨replyKind r.kind, r.tag, u8 0x02⟩ s
           else { s with tether.errors := min 65535 (s.tether.errors + 1) })) ∧
     (addr = s.service.address → 2 ≤ s.serviceQueue.length →
       exec (.recordReceived .service addr r.bytes) s =
         .next (if s.service.replies.length + s.heldPlaces .service < 2 then
             pushReply .service ⟨replyKind r.kind, r.tag, u8 0x02⟩ s
           else { s with service.errors := min 65535 (s.service.errors + 1) }))) ∧
  (∀ (l : List Byte) (addr : Nat) (s : State), addr < 128 →
     let length := (l.getD 0 0).toNat * 256 + (l.getD 1 0).toNat
     let check := (l.getD (length + 4) 0).toNat * 256 + (l.getD (length + 5) 0).toNat
     let bad := 4 ≤ l.length ∧ 2048 < length ∨
       length ≤ 2048 ∧ length + 6 ≤ l.length ∧ crc16 (l.take (length + 4)) ≠ check
     (s.tether.link = .up → s.tether.rx = [] →
       (∀ b, b ≠ 0xA5#8 →
         exec (.recordReceived .tether addr (b :: l)) s = exec (.recordReceived .tether addr l) s) ∧
       (l.length < 4 ∨ length ≤ 2048 ∧ l.length < length + 6 →
         exec (.recordReceived .tether addr (0xA5#8 :: l)) s = .next { s with tether.rx := 0xA5#8 :: l }) ∧
       (bad → exec (.recordReceived .tether addr (0xA5#8 :: l)) s =
         exec (.recordReceived .tether addr l) { s with tether.errors := min 65535 (s.tether.errors + 1) })) ∧
     (s.tether.link = .up →
       exec (.recordReceived .tether addr l) s =
         exec (.recordReceived .tether addr (s.tether.rx ++ l)) { s with tether.rx := [] }) ∧
     (addr = s.service.address → bad → (∀ b ∈ l, b ≠ 0xA5#8) →
       exec (.recordReceived .service addr (0xA5#8 :: l)) s =
         .next { s with service.errors := min 65535 (s.service.errors + 1) }))

/-- A read of the service port at its address returns the oldest reply from its start byte on, and ones beyond its end; the
reply leaves the queue when its last byte is read, and stays when the read stops earlier; with no reply an EMPTY record is
read; a read at another address changes nothing. The reply that ends a Restart is left to another statement (R171). -/
def Obligations.ServiceReadReturnsOldestReply : Prop :=
  ∀ (addr count : Nat) (s : State), addr < 128 →
    (addr ≠ s.service.address → exec (.serviceRead addr count) s = .next s) ∧
    (addr = s.service.address → s.service.replies = [] →
      exec (.serviceRead addr count) s =
        .next { s with service.out := ((⟨0, 0, []⟩ : Record).bytes ++ List.replicate count 0xFF#8).take count }) ∧
    (addr = s.service.address → s.restartPending = none → ∀ r l, s.service.replies = r :: l →
      exec (.serviceRead addr count) s =
        .next { s with
          service.replies := if r.bytes.length ≤ count then l else r :: l
          service.out := (r.bytes ++ List.replicate count 0xFF#8).take count })

/-- In BOOT a request of any kind of Table 10-2 but Query Status, read from bytes, is answered REFUSED_MODE when it is taken,
with the code alone, and nothing else happens (R169 (3); for Bind View the model's choice, log 42). A request of a kind
outside Table 10-2 is answered UNKNOWN_KIND with the reply kind FF hex, in every mode (R167, R169 (1)). -/
def Obligations.DispatcherRefusesRequests : Prop :=
  (∀ (r : Record) (p : Port) (i : Instr) (s : State), r.fits → requestKinds.contains r.kind = true → r.kind ≠ 0x01 →
     readRecord p r = .request i → s.mode = .boot → s.takes ⟨p, r.tag⟩ i = true →
     exec i s = .next (pushReply p ⟨r.kind + 0x80, r.tag, u8 0x05⟩ (s.taken p))) ∧
  (∀ (q : Req) (kind : Nat) (s : State),
     (Instr.unknownKind q kind).wellFormed = true → s.takes q (.unknownKind q kind) = true →
     exec (.unknownKind q kind) s = .next (replied q 0xFF .unknownKind [] (s.taken q.port)))

/-- Query Status is answered in every mode with the part mode, the link, the service address, the framing error counts, the
numbers of queued requests and records, the acquisition, the load outcome and the FAULT output; then the framing error
count of its own port becomes 0, and nothing else changes (R174). -/
def Obligations.QueryStatusReply : Prop :=
  ∀ (q : Req) (s : State), (Instr.queryStatus q).wellFormed = true → s.takes q (.queryStatus q) = true →
    exec (.queryStatus q) s =
      .next (replied q 0x81 .ok
        (u8 s.mode.code ++ u8 s.tether.link.code ++
          (if s.tether.link = .up then u8 1 ++ u8 s.tether.offered.code else u8 0) ++ u8 s.tether.offered.code ++
          u8 s.tether.startRate.code ++ flag s.tether.alternation ++
          u8 s.service.address ++ u16 s.tether.errors ++ u16 s.service.errors ++
          u8 (s.taken q.port).tetherQueue.length ++ u8 (s.taken q.port).serviceQueue.length ++
          u8 s.tether.replies.length ++ u8 s.service.replies.length ++ u8 s.tether.notices.length ++
          u8 s.tether.images.length ++
          (match s.cal.acq with
            | some a => u8 1 ++ (u8 a.kind.code ++ u8 a.frames ++ u8 a.taken)
            | none => u8 0) ++
          (match s.store.outcome with
            | some o => u8 1 ++ u8 o.code
            | none => u8 0) ++
          flag s.faults.line ++ u8 (s.faults.entries.filter (·.set)).length)
        (match q.port with
          | .tether => { s.taken .tether with tether.errors := 0 }
          | .service => { s.taken .service with service.errors := 0 }))

/-! ### Mode, restart and link -/

/-- Enter Setup outside RUN is answered OK and changes nothing; in RUN it ends the run in one event: the mode is SETUP, the
capture STOPPED with its pending settings applied, no slot FILLING and no next pin pending, the maps latched, an acquisition
ABORTED with its notice and the partial accumulators gone, no link left, a READY or UNBIND pending change acted on as at a
frame start, the ring OFF and dark with its supply demand OFF, a write asked for as it changes (R155; log 46), and its trip
and causes gone, the supervisor's count, level and trip record cleared; the index in effect, the faults, the flash, the
settings, the pixels and the latest statistics stay. Every queued live entry is removed, its slot's count and its buffer's use
taken back; a running live warp is truncated, its FRAME END placed or owed with the tiles placed, or nothing sent when its
FRAME BEGIN still waited or its records are discarded; a review goes on, an owed FRAME END stays, and the first review
follows; no frame is counted as skipped (R8, R21, R28, R34, R44, R60, R78, R104, R113, R124, R149, R173). The reply stands
before the notices and these before the image records (log 13); the order of the parts is log 31's, that of the slots log
43's. What adoptViews does to each slot is stated in FrameStarts. A record that waits while a place is free, which no event
leaves, is left out. -/
def Obligations.EnterSetupEndsRun : Prop :=
  ∀ (q : Req) (s : State), s.serves q (.enterSetup q) →
    (s.mode = .setup → exec (.enterSetup q) s = .next (replied q 0x82 .ok [] (s.taken q.port))) ∧
    (s.mode = .run → ∃ t, exec (.enterSetup q) s = .next t ∧
      t.mode = .setup ∧ t.capture.mode = .stopped ∧ t.capture.frame = none ∧ t.capture.position = 0 ∧
      t.capture.period = s.capture.pendingPeriod.getD s.capture.period ∧ t.capture.pendingPeriod = none ∧
      t.capture.table = s.capture.pendingTable.getD s.capture.table ∧ t.capture.pendingTable = none ∧
      t.capture.pattern = s.capture.pendingPattern.getD s.capture.pattern ∧ t.capture.pendingPattern = none ∧
      t.capture.tag = s.capture.tag ∧ t.capture.requested = s.capture.requested ∧ t.capture.index = s.capture.index ∧
      (∀ x ∈ t.slots, x.state ≠ .filling) ∧ t.nextPin = false ∧
      t.cond.dark = s.cal.dark ∧ t.cond.gain = s.cal.gain ∧ t.cond.changed = false ∧ t.cond.acc = none ∧
      t.cond.latest = s.cond.latest ∧ t.cal.acq = none ∧ t.cal.dark = s.cal.dark ∧ t.cal.gain = s.cal.gain ∧
      t.linkTether = none ∧ t.linkService = none ∧
      t.ring.state = .off ∧ t.ring.codes = List.replicate 12 0 ∧ t.ring.demand = false ∧ t.ring.trip = .none ∧
      t.ring.causes = ⟨false, false, false⟩ ∧ t.ring.note = none ∧ (∀ c ∈ t.ring.channels, c.state ≠ .opened) ∧
      t.ring.budget = s.ring.budget ∧ t.ring.balance = s.ring.balance ∧ t.ring.glare = s.ring.glare ∧
      t.sup.level = .none ∧ t.sup.count = 0 ∧ t.sup.dimPart = none ∧ t.sup.offPart = none ∧
      t.sup.sample = s.sup.sample ∧ (∀ e ∈ t.warp.queue, e.purpose = .review) ∧
      t.table = (adoptViews s).table ∧
      (∀ v, (t.view v).active = ((adoptViews s).view v).active ∧
        (t.view v).activeBuffer = ((adoptViews s).view v).activeBuffer ∧
        ((s.view v).pending = .absent ∨ (s.view v).pending = .unbind ∨ (∃ n, (s.view v).pending = .profile n .ready) →
          (t.view v).pending = .absent) ∧
        (∀ n, (s.view v).pending = .profile n .building → (t.view v).pending = .profile n .building) ∧
        (∀ n, (s.view v).pending = .profile n .waiting →
          (t.view v).pending = .profile n .waiting ∨ (t.view v).pending = .profile n .building) ∧
        (∀ b, s.viewsWell → (s.view v).activeBuffer = some b → (t.view v).active ≠ (s.view v).active →
          ((t.view v).buffer b).state = .free ∨ ((t.view v).buffer b).state = .retiring)) ∧
      t.head = (if s.ring.demand = true then s.head.supplyAsked false else s.head) ∧
      t.faults = s.faults ∧ t.store = s.store ∧ t.frameStore = s.frameStore ∧ t.badWords = s.badWords ∧
      t.tetherQueue = (s.taken q.port).tetherQueue ∧ t.serviceQueue = (s.taken q.port).serviceQueue ∧
      let u := replied q 0x82 .ok [] (s.taken q.port)
      let noticed := (adoptViews { u with tether := match s.cal.acq with
        | none => u.tether
        | some a => u.tether.pushNotice ⟨0xF3, 0, u8 a.kind.code ++ u8 1 ++ u8 a.taken⟩ }).tether
      let reviews := s.warp.queue.filter (·.purpose = .review)
      let unheard := t.tether = noticed ∧ t.capture.skipA = s.capture.skipA ∧ t.capture.skipB = s.capture.skipB
      t.service = u.service ∧
      (s.warp.engine = .idle → s.warp.queue = [] → t.warp = s.warp ∧ unheard) ∧
      (s.warp.waiting = .nothing ∨ 16 ≤ s.tether.images.length →
        t.warp.queue = reviews ∧
        (s.framesWell → ∀ n, n < 4 →
          (t.slot n).count = reviews.countP (·.slot = n) ∧
          ((s.slot n).state = .held →
            if (s.slot n).pinned = true ∨ 0 < reviews.countP (·.slot = n) then
              (t.slot n).state = .held ∧ (t.slot n).pinned = (s.slot n).pinned ∧ n ∈ t.held
            else (t.slot n).state = .free ∧ n ∉ t.held)) ∧
        (s.framesWell → s.viewsWell → ∀ v b, b < 2 →
          ((t.view v).buffer b).uses = reviews.countP fun e => e.view = v ∧ e.buffer = b) ∧
        (s.warp.engine = .closing → s.warp.discarding = false → 16 ≤ s.tether.images.length →
          t.warp = { s.warp with queue := reviews } ∧ unheard) ∧
        (∀ e rest, s.warp.engine = .running → s.warp.queue = e :: rest →
          let cut : OwedEnd := ⟨e.view, e.tag, false, s.warp.placed⟩
          let ended : Record := ⟨0xE2, 0, u8 e.view.code ++ u16 e.tag ++ u8 1 ++ u16 s.warp.placed⟩
          (e.purpose = .review → t.warp = { s.warp with queue := reviews } ∧ unheard) ∧
          (e.purpose = .live → s.warp.waiting = .frameBegin ∨ s.warp.discarding = true → reviews = [] →
            t.warp.engine = .idle ∧ t.warp.owed = none ∧ unheard) ∧
          (e.purpose = .live → s.warp.waiting ≠ .frameBegin → s.warp.discarding = false →
            (16 ≤ s.tether.images.length → t.warp.engine = .closing ∧ t.warp.owed = some cut ∧ unheard) ∧
            (s.tether.images.length < 16 → reviews = [] →
              t.warp.engine = .idle ∧ t.warp.owed = none ∧ t.tether = noticed.pushImage ended ∧
              t.capture.skipA = s.capture.skipA ∧ t.capture.skipB = s.capture.skipB) ∧
            (∀ r l, s.tether.images.length < 15 → s.tether.link = .up → reviews = r :: l →
              t.warp = ⟨r :: l, .running, .nothing, 0, 0, false, false, none⟩ ∧
              t.tether = (noticed.pushImage ended).pushImage (frameBeginRecord r (s.skip r.view)) ∧
              ∀ w, t.skip w = if w = r.view then 0 else s.skip w)))))

/-- Enter Run in RUN is answered OK and changes nothing; in SETUP it is refused with HEAD_CONDITION while the head condition
stands, then with OUT_OF_RANGE while the enabled channels' dmin exceed the budget, and else begins the run in one event: the
links absent, the supervisor's count 0, the supply demanded with a write asked for as the demand changes (log 46), the ring
LIT with the start drives under the budget step, or ABSENT, and the first frame start taken with tag and pattern position 0
over skip counts of 0: pending settings applied, the frame classed, a lit one in the lowest FREE slot with a pending next pin,
the views noted with a use of their buffers, and the exposure note of a lit one (R9, R10, R15, R44, R121, R123, R149, R155,
R172). -/
def Obligations.EnterRunBeginsRun : Prop :=
  ∀ (q : Req) (s : State), s.serves q (.enterRun q) →
    (s.mode = .run → exec (.enterRun q) s = .next (replied q 0x83 .ok [] (s.taken q.port))) ∧
    (s.mode = .setup → s.head.leak.accepted ≠ .inactive ∨ s.head.silent = true →
      exec (.enterRun q) s = .next (replied q 0x83 .headCondition [] (s.taken q.port))) ∧
    (s.mode = .setup → s.head.leak.accepted = .inactive → s.head.silent = false →
      s.ring.budget < ((s.ring.channels.filter (·.enabled)).map (·.dmin)).sum →
      exec (.enterRun q) s = .next (replied q 0x83 .outOfRange [] (s.taken q.port))) ∧
    (s.mode = .setup → s.head.leak.accepted = .inactive → s.head.silent = false →
      ((s.ring.channels.filter (·.enabled)).map (·.dmin)).sum ≤ s.ring.budget →
      ∃ t, exec (.enterRun q) s = .next (replied q 0x83 .ok [] t) ∧
        t.mode = .run ∧ t.linkTether = none ∧ t.linkService = none ∧ t.sup.count = 0 ∧ t.sup.level = .none ∧
        t.ring.demand = true ∧ t.ring.trip = .none ∧ t.ring.causes = ⟨false, false, false⟩ ∧
        (s.ring.presence = true → t.ring.state = .lit ∧
          t.ring.codes = s.ring.budgetStep (s.ring.channels.map fun c => if c.usable then c.start else 0)) ∧
        (s.ring.presence = false → t.ring.state = .absent ∧ t.ring.codes = s.ring.codes) ∧
        t.ring.channels = s.ring.channels ∧ t.ring.budget = s.ring.budget ∧ t.ring.balance = s.ring.balance ∧
        t.ring.note = (if t.capture.latestClass = some .lit then some t.ring.state else none) ∧
        t.head = (if s.ring.demand = true then s.head else s.head.supplyAsked true) ∧
        frameBegins (fun _ => 0) s t ∧ t.capture.tag = 0 ∧ t.capture.position = 0 ∧
        ((∀ a, s.cal.acq = some a → a.kind = .dark) ∨ s.ring.presence = true →
          t.cal = s.cal ∧ t.tether = (adoptViews s).tether) ∧
        t.sup.sample = s.sup.sample ∧ t.warp = s.warp ∧
        t.faults = s.faults ∧ t.store = s.store ∧ t.frameStore = s.frameStore ∧ t.held = s.held ∧
        t.cal.dark = s.cal.dark ∧ t.cal.gain = s.cal.gain)

/-- Restart is answered OK and marks a restart as pending at its port, or on a tether link that is not UP is carried out
at once; it is carried out when the reply's sending ends, or on the service port when its last byte is read or its
time runs out (R175). A restart carried out acts on every block as power-on does under the straps' held values: the whole state is
the one that POWER_ON with those straps leaves, in which a tether link starts training at the start rate; only a link that is UP
stays UP at its rate, and there the STARTED notice of a load that ends at once (DEFAULTS, with STORE_EN inactive) is the record
being sent (R164, R175, R176, R177, R179). So a record being sent is cut off, no record or request is left at either port, both
framing error counts are 0 and no restart is pending. The model's choices: a timeout with no such reply and an ended sending of
nothing cannot occur and change nothing (log 3); a restart, as a power-on, keeps the pixels, the faulty words, the interrupt
input's level and the queue of commands (logs 8, 12, 28, 33), and fields without a reset value in the spec are 0 or empty (log
30). -/
def Obligations.RestartIsCarriedOut : Prop :=
  ((∀ (q : Req) (s : State), s.serves q (.restart q) →
     exec (.restart q) s =
       .next (if q.port = .tether ∧ s.tether.link ≠ .up then
           carryOutRestart { s.taken q.port with restartPending := some q.port }
         else replied q 0x84 .ok [] { s.taken q.port with restartPending := some q.port })) ∧
   (∀ (tag : Nat) (s : State), s.tether.sending = some ⟨0x84, tag, [0x00#8]⟩ → s.restartPending = some .tether →
     exec .recordSent s = .next (carryOutRestart { s with tether.sending := none })) ∧
   (∀ (addr count tag : Nat) (l : List Record) (s : State), addr < 128 → addr = s.service.address →
     s.service.replies = ⟨0x84, tag, [0x00#8]⟩ :: l → s.restartPending = some .service → 8 ≤ count →
     exec (.serviceRead addr count) s =
       .next { carryOutRestart { s with service.replies := l } with
         service.out := ((⟨0x84, tag, [0x00#8]⟩ : Record).bytes ++ List.replicate count 0xFF#8).take count }) ∧
   (∀ s : State, s.restartPending = some .service → exec .restartReplyTimeout s = .next (carryOutRestart s)) ∧
   (∀ s : State, s.restartPending ≠ some .service → exec .restartReplyTimeout s = .next s) ∧
   (∀ s : State, s.tether.sending = none → exec .recordSent s = .next s)) ∧
  (∀ s : State,
     let x := s.store.straps
     let t := carryOutRestart s
     let u := resetWithStraps x s
     let started : Option Record := if x.storeEn = true then none else some ⟨0xF0, 0, u8 2⟩
     (x.wellFormed = true → exec (.powerOn x) s = .next u) ∧
     (s.tether.link ≠ .up → t = u) ∧
     (s.tether.link = .up →
       t = { u with tether.link := .up, tether.offered := s.tether.offered, tether.sending := started }) ∧
     (s.tether.link ≠ .up → t.tether = ⟨.training, x.startRate, x.startRate, x.rateAlt, false, [], 0, none, [], [], []⟩) ∧
     (s.tether.link = .up → t.tether = ⟨.up, s.tether.offered, x.startRate, x.rateAlt, false, [], 0, started, [], [], []⟩) ∧
     t.service = ⟨88 + x.svcAddr, [], 0, []⟩ ∧ t.tetherQueue = [] ∧ t.serviceQueue = [] ∧ t.restartPending = none ∧
     t.lastServed = .service ∧ t.linkTether = none ∧ t.linkService = none ∧ t.store.straps = x ∧
     t.mode = (if x.storeEn = true then .boot else .setup) ∧
     t.store.load = (if x.storeEn = true then .reading else .idle) ∧ t.store.op = none ∧
     t.store.outcome = (if x.storeEn = true then none else some .defaults) ∧
     t.capture = Capture.atReset ∧ t.slots = State.reset.slots ∧ t.held = [] ∧ t.nextPin = false ∧
     t.cond = Conditioner.atReset ∧ t.cal = CalUnit.atReset ∧ t.table = ProfileTable.atReset ∧
     t.viewA = ViewSlot.atReset s.viewA.buffer0.nodes s.viewA.buffer1.nodes ∧
     t.viewB = ViewSlot.atReset s.viewB.buffer0.nodes s.viewB.buffer1.nodes ∧ t.warp = Warp.atReset ∧
     t.ring = Ring.atReset ∧ t.sup = Supervisor.atReset ∧ t.head = Head.atReset s.head.interrupt ∧
     t.faults = FaultTable.atReset ∧ t.frameStore = s.frameStore ∧ t.store.flash = s.store.flash)

/-- Power-on and the external reset take the straps and leave every block in its reset state: BOOT with no load outcome, or
with STORE_EN inactive SETUP with DEFAULTS; training at the start rate; no record, request, pin, frame, acquisition, view,
trip or fault left; every mesh buffer FREE, without selector or use, its nodes not cleared; the ring OFF and dark; the four
head inputs UNKNOWN without candidate or timer, no band reported, the supply line UNKNOWN, and the set-up write of OFF in
flight with a read to follow; every setting at its default; the flash stays (R83, R151, R164, R168 to R177, the reset values
of the chapters). The model's choices among these: the pixels and the faulty words stay (log 8, log 12), the level of the
expander interrupt input stays (log 28), the exposure time, the row count, the zone sums and the bytes of the latest service
read are 0 or empty (log 30), and the queue of commands, which is the model's own, stays (log 33). -/
def Obligations.ResetsLeaveResetState : Prop :=
  ∀ (x : Straps) (s : State), x.wellFormed = true →
    exec (.externalReset x) s = exec (.powerOn x) s ∧
    ∃ t, exec (.powerOn x) s = .next t ∧
      t.mode = (if x.storeEn = true then .boot else .setup) ∧
      t.store.outcome = (if x.storeEn = true then none else some .defaults) ∧
      t.store.load = (if x.storeEn = true then .reading else .idle) ∧ t.store.op = none ∧ t.store.straps = x ∧
      t.store.flash = s.store.flash ∧ t.frameStore = s.frameStore ∧ t.badWords = s.badWords ∧ t.pending = s.pending ∧
      t.tether = ⟨.training, x.startRate, x.startRate, x.rateAlt, false, [], 0, none, [], [], []⟩ ∧
      t.service = ⟨88 + x.svcAddr, [], 0, []⟩ ∧ t.restartPending = none ∧
      t.tetherQueue = [] ∧ t.serviceQueue = [] ∧ t.linkTether = none ∧ t.linkService = none ∧ t.lastServed = .service ∧
      t.capture = Capture.atReset ∧ t.slots.length = 4 ∧
      (∀ y ∈ t.slots, y.state = .free ∧ y.pinned = false ∧ y.count = 0) ∧ t.held = [] ∧
      t.nextPin = false ∧ t.cond = Conditioner.atReset ∧ t.cal = CalUnit.atReset ∧ t.table = ProfileTable.atReset ∧
      t.viewA = ⟨0, none, .absent, ⟨.free, none, 0, 0, s.viewA.buffer0.nodes⟩, ⟨.free, none, 0, 0, s.viewA.buffer1.nodes⟩⟩ ∧
      t.viewB = ⟨0, none, .absent, ⟨.free, none, 0, 0, s.viewB.buffer0.nodes⟩, ⟨.free, none, 0, 0, s.viewB.buffer1.nodes⟩⟩ ∧
      t.warp.queue = [] ∧ t.warp.engine = .idle ∧ t.warp.owed = none ∧ t.ring = Ring.atReset ∧ t.sup = Supervisor.atReset ∧
      t.faults = FaultTable.atReset ∧
      (∀ i, t.head.line i = ⟨.unknown, none, false⟩) ∧ t.head.silent = false ∧ t.head.supply = .unknown ∧
      t.head.linesSet = false ∧ t.head.transfer = some (.setUp false) ∧ t.head.retried = false ∧ t.head.pendingRead = true ∧
      t.head.pendingWrite = none ∧ t.head.band = none ∧ t.head.interrupt = s.head.interrupt

/-- When the sending of a record other than an awaited Restart reply ends, the transmitter of an UP link takes the oldest
reply, with no reply the oldest notice, with neither the oldest image record, and else is free (R170). A Warp Engine that is
idle over an empty queue, or runs with nothing waiting, stays as it is, and one whose record waits for a place of the full
image queue stays while a reply or a notice is taken. An image record taken from the full queue frees a place, and in that
same event the waiting record takes it (R110; log 14): a FRAME BEGIN with the view's skip count, which becomes 0 (R101); a
TILE, after which the next tile begins, or after the last one the entry ends with its FRAME END owed (R102 to R104); an owed
FRAME END, after which the engine is idle, or begins the next entry, whose FRAME BEGIN waits in turn (R101, R103). -/
def Obligations.TransmitterTakesByRank : Prop :=
  ∀ (r : Record) (s : State), s.tether.sending = some r → s.tether.link = .up →
    s.restartPending ≠ some .tether ∨ r.kind ≠ 0x84 ∨ r.payload ≠ [0x00#8] →
    let still := (s.warp.engine = .idle ∧ s.warp.queue = []) ∨ (s.warp.engine = .running ∧ s.warp.waiting = .nothing)
    let waits := s.warp.engine ≠ .idle ∧ s.warp.discarding = false ∧ 16 ≤ s.tether.images.length
    (∀ x l, still ∨ waits → s.tether.replies = x :: l →
      exec .recordSent s = .next { s with tether.sending := some x, tether.replies := l }) ∧
    (∀ x l, still ∨ waits → s.tether.replies = [] → s.tether.notices = x :: l →
      exec .recordSent s = .next { s with tether.sending := some x, tether.notices := l }) ∧
    (∀ x l, still → s.tether.replies = [] → s.tether.notices = [] → s.tether.images = x :: l →
      exec .recordSent s = .next { s with tether.sending := some x, tether.images := l }) ∧
    (still → s.tether.replies = [] → s.tether.notices = [] → s.tether.images = [] →
      exec .recordSent s = .next { s with tether.sending := none }) ∧
    (∀ x l, waits → s.tether.replies = [] → s.tether.notices = [] → s.tether.images = x :: l → s.tether.images.length = 16 →
      let queued := fun y : Record => { s.tether with sending := some x, images := l ++ [y] }
      (∀ e rest, s.warp.engine = .running → s.warp.queue = e :: rest →
        (s.warp.waiting = .frameBegin →
          exec .recordSent s = .next (({ s with
            tether := queued (frameBeginRecord e (s.skip e.view)), warp.waiting := .nothing } : State).setSkip e.view 0)) ∧
        (∀ y, s.warp.waiting = .tile y → s.warp.next + 1 < e.copy.width * e.copy.height →
          exec .recordSent s = .next { s with
            tether := queued y
            warp.waiting := .nothing, warp.next := s.warp.next + 1, warp.placed := s.warp.placed + 1,
            warp.corrupt := false }) ∧
        (∀ y, s.warp.waiting = .tile y → e.copy.width * e.copy.height ≤ s.warp.next + 1 →
          exec .recordSent s = .next { s.entryEnded e with
            tether := queued y
            warp := ⟨rest, .closing, .nothing, s.warp.next, s.warp.placed + 1, false, false,
              some ⟨e.view, e.tag, true, s.warp.placed + 1⟩⟩ })) ∧
      (∀ o, s.warp.engine = .closing → s.warp.owed = some o →
        let ended : Record :=
          ⟨0xE2, 0, u8 o.view.code ++ u16 o.tag ++ u8 (if o.complete then 0 else 1) ++ u16 o.count⟩
        (s.warp.queue = [] →
          exec .recordSent s = .next { s with tether := queued ended, warp.engine := .idle, warp.owed := none }) ∧
        (∀ e rest, s.warp.queue = e :: rest →
          exec .recordSent s = .next { s with
            tether := queued ended, warp := ⟨e :: rest, .running, .frameBegin, 0, 0, false, false, none⟩ })))

/-- A training attempt that succeeds brings the link UP at the offered rate; one that fails brings it DOWN with the other rate
offered under rate alternation and else the start rate; the retrain timer starts training again, at the rate offered (R164). A
link that loses lock while UP goes DOWN, its rate staying the offered one for the first attempt after it (R165), with its
queues, the record being sent and the bytes received gone; LINK_LOST is raised; the waiting requests and the settings stay
(R165). A running warp discards from then on and drops its waiting record, the frame of a LIVE entry counted as skipped for
its view if it was not counted before; a tile that waited is done, so that the warp goes on or, after its last one, ends; an
owed FRAME END is dropped; and the next entry starts discarding, a LIVE one counted (R15 (4), R101, R103, R104, R111, R112).
With a Restart reply under way the restart is carried out at the loss (the model's deduction, log 22). In any other link state
these events cannot occur and change nothing (the model's choice, log 3). The mark lostLock is the model's way to hold R165's
rule for the first attempt (log 23). -/
def Obligations.LinkTrainsAndFails : Prop :=
  (∀ s : State,
     (s.tether.link = .training →
       exec .linkTrainingSuccess s = .next { s with tether.link := .up, tether.rx := [] } ∧
       exec .linkTrainingFailure s = .next { s with
         tether.link := .down
         tether.offered :=
           if s.tether.alternation = true then (if s.tether.offered = .full then .reduced else .full)
           else s.tether.startRate }) ∧
     (s.tether.link = .down →
       exec .retrainTimerExpiry s = .next { s with tether.link := .training, tether.lostLock := false }) ∧
     (s.tether.link ≠ .training → exec .linkTrainingSuccess s = .next s ∧ exec .linkTrainingFailure s = .next s) ∧
     (s.tether.link ≠ .down → exec .retrainTimerExpiry s = .next s)) ∧
  (∀ s : State,
     (s.tether.link ≠ .up → exec .linkLoss s = .next s) ∧
     (s.tether.link = .up → s.restartPending = some .tether →
       exec .linkLoss s = .next (carryOutRestart { s with tether.link := .down })) ∧
     (s.tether.link = .up → s.restartPending ≠ some .tether →
       ∃ t, exec .linkLoss s = .next t ∧
         t.tether = { s.tether with
           link := .down, lostLock := true, rx := [], sending := none, replies := [], notices := [], images := [] } ∧
         t.faults = (raise .linkLost s).faults ∧
         (t.warp.engine ≠ .idle → t.warp.discarding = true) ∧
         t.tetherQueue = s.tetherQueue ∧ t.serviceQueue = s.serviceQueue ∧ t.service = s.service ∧ t.mode = s.mode ∧
         t.ring = s.ring ∧ t.head = s.head ∧ t.cal = s.cal ∧ t.cond = s.cond ∧ t.store = s.store ∧
         t.frameStore = s.frameStore ∧
         let lost := { s with tether := t.tether, faults := t.faults }
         let starts := fun (l : List WarpEntry) => (⟨l, .running, .nothing, 0, 0, false, true, none⟩ : Warp)
         (s.warp.engine = .idle → s.warp.queue = [] → t = lost) ∧
         (∀ o, s.warp.engine = .closing → s.warp.owed = some o →
           (s.warp.queue = [] → t = { lost with warp := { s.warp with engine := .idle, discarding := true, owed := none } }) ∧
           (∀ e l, s.warp.queue = e :: l → t = { lost with warp := starts (e :: l) }.skipCounted e)) ∧
         (∀ e rest, s.warp.engine = .running → s.warp.queue = e :: rest →
           let counted := if s.warp.discarding = true then lost else lost.skipCounted e
           ((∀ r, s.warp.waiting ≠ .tile r) →
             t = { counted with warp := { s.warp with waiting := .nothing, discarding := true } }) ∧
           (∀ r, s.warp.waiting = .tile r → s.warp.next + 1 < e.copy.width * e.copy.height →
             t = { counted with warp := { s.warp with
               waiting := .nothing, discarding := true, next := s.warp.next + 1, corrupt := false } }) ∧
           (∀ r, s.warp.waiting = .tile r → e.copy.width * e.copy.height ≤ s.warp.next + 1 →
             (rest = [] → t = { counted.entryEnded e with
               warp := ⟨[], .idle, .nothing, s.warp.next, s.warp.placed, false, true, none⟩ }) ∧
             (∀ e2 l, rest = e2 :: l → t = { counted.entryEnded e with warp := starts (e2 :: l) }.skipCounted e2)))))

/-! ### Chapter 1 -/

/-- Set Timing is refused with OUT_OF_RANGE for an index above 15 or a pattern outside R4, changing nothing; else each present
part is applied, the period clamped to 200, period and pattern at once in SETUP and pending in RUN, the index at once in both,
and an absent part is left as it is; the reply carries the period that will be in effect and the requested index, a refusal's
the result code alone (log 47). In SETUP no period is pending, as Enter Setup and every reset leave it (R1, R3, R4, R5). Write
Exposure Table is refused with OUT_OF_RANGE when an entry is 0 or not greater than the one before it, changing nothing; else
the sixteen entries replace the table in SETUP and become the pending table in RUN (R2). -/
def Obligations.TimingRequestsApply : Prop :=
  (∀ (q : Req) (period : Option Nat) (pattern : Option PatternArg) (index : Option Nat) (s : State),
     s.serves q (.setTiming q period pattern index) →
     ((∃ n, index = some n ∧ 15 < n) ∨
         (∃ p, pattern = some p ∧ (p.length < 1 ∨ 16 < p.length ∨ ∀ k, k < p.length → p.lit.testBit k = false)) →
       exec (.setTiming q period pattern index) s = .next (replied q 0x90 .outOfRange [] (s.taken q.port))) ∧
     ((∀ n, index = some n → n ≤ 15) →
       (∀ p, pattern = some p → 1 ≤ p.length ∧ p.length ≤ 16 ∧ ∃ k, k < p.length ∧ p.lit.testBit k = true) →
       (s.mode = .setup → s.capture.pendingPeriod = none →
         exec (.setTiming q period pattern index) s =
           .next (replied q 0x90 .ok
             (u16 ((period.map (max 200)).getD s.capture.period) ++ u8 (index.getD s.capture.requested))
             { s.taken q.port with
               capture.period := (period.map (max 200)).getD s.capture.period
               capture.pattern := (pattern.map fun p => ⟨p.length, p.lit⟩).getD s.capture.pattern
               capture.position := if pattern.isSome then 0 else s.capture.position
               capture.requested := index.getD s.capture.requested })) ∧
       (s.mode = .run →
         exec (.setTiming q period pattern index) s =
           .next (replied q 0x90 .ok
             (u16 ((period.map (max 200)).getD (s.capture.pendingPeriod.getD s.capture.period)) ++
               u8 (index.getD s.capture.requested))
             { s.taken q.port with
               capture.pendingPeriod := (period.map (max 200)).or s.capture.pendingPeriod
               capture.pendingPattern := (pattern.map fun p => ⟨p.length, p.lit⟩).or s.capture.pendingPattern
               capture.requested := index.getD s.capture.requested })))) ∧
  (∀ (q : Req) (l : List Nat) (s : State), s.serves q (.writeExposureTable q l) →
     ((∀ k, k < 16 → 0 < l.getD k 0) → (∀ k, k < 15 → l.getD k 0 < l.getD (k + 1) 0) →
       exec (.writeExposureTable q l) s =
         .next (replied q 0x91 .ok []
           (if s.mode = .run then { s.taken q.port with capture.pendingTable := some l }
           else { s.taken q.port with capture.table := l }))) ∧
     ((∃ k, k < 16 ∧ l.getD k 0 = 0) ∨ (∃ k, k < 15 ∧ l.getD (k + 1) 0 ≤ l.getD k 0) →
       exec (.writeExposureTable q l) s = .next (replied q 0x91 .outOfRange [] (s.taken q.port))))

/-- Pin Frame NEXT is OK without effect while a next pin is pending or attached to the FILLING slot, refused with PIN_LIMIT
while two pins are held, and else makes the next pin pending; TAG t pins the oldest unpinned held slot that carries t, with
OUT_OF_RANGE for a tag above 4095, NO_FRAME when no held slot carries it, OK without effect when all that do are pinned, and
PIN_LIMIT; nothing else changes. The reply carries the slot, or the mark that the pin is pending (R17; its bytes are log 18's,
the oldest slot for a tag whose slots are all pinned log 24's, and a refusal carries the result code alone, log 47). Release
Frame NEXT withdraws a pending next pin, or clears the pin of the FILLING slot, or is refused with NO_FRAME; TAG t clears the
pin of the oldest pinned held slot that carries t, which becomes FREE and leaves the held list when no warp entry reads it,
with OUT_OF_RANGE for a tag above 4095, NO_FRAME when no held slot carries it, and OK without effect when none of them is
pinned; nothing else changes (R8, R18). A target code other than NEXT and TAG is answered OUT_OF_RANGE by both (the model's
choice, log 19). -/
def Obligations.PinsAndReleases : Prop :=
  (∀ (q : Req) (s : State),
     (s.serves q (.pinFrame q .next) →
       (s.nextPin = true → exec (.pinFrame q .next) s = .next (replied q 0x92 .ok (u8 0) (s.taken q.port))) ∧
       (∀ n, s.nextPin = false → s.fillingSlot = some n → (s.slot n).pinned = true →
         exec (.pinFrame q .next) s = .next (replied q 0x92 .ok (u8 1 ++ u8 n) (s.taken q.port))) ∧
       (s.nextPin = false → (∀ n, s.fillingSlot = some n → (s.slot n).pinned = false) →
         exec (.pinFrame q .next) s =
           .next (if 2 ≤ (s.slots.filter (·.pinned)).length then replied q 0x92 .pinLimit [] (s.taken q.port)
             else replied q 0x92 .ok (u8 0) { s.taken q.port with nextPin := true }))) ∧
     (∀ t, s.serves q (.pinFrame q (.tag t)) →
       (4095 < t → exec (.pinFrame q (.tag t)) s = .next (replied q 0x92 .outOfRange [] (s.taken q.port))) ∧
       (t ≤ 4095 → (∀ n ∈ s.held, (s.slot n).tag ≠ t) →
         exec (.pinFrame q (.tag t)) s = .next (replied q 0x92 .noFrame [] (s.taken q.port))) ∧
       (∀ n l, t ≤ 4095 → s.heldWithTag t = n :: l → (∀ m ∈ n :: l, (s.slot m).pinned = true) →
         exec (.pinFrame q (.tag t)) s = .next (replied q 0x92 .ok (u8 1 ++ u8 n) (s.taken q.port))) ∧
       (∀ before n after, t ≤ 4095 → s.heldWithTag t = before ++ n :: after →
         (∀ m ∈ before, (s.slot m).pinned = true) → (s.slot n).pinned = false →
         exec (.pinFrame q (.tag t)) s =
           .next (if 2 ≤ s.pins then replied q 0x92 .pinLimit [] (s.taken q.port)
             else replied q 0x92 .ok (u8 1 ++ u8 n)
               { s.taken q.port with slots := s.slots.modify n fun x => { x with pinned := true } }))) ∧
     (∀ c, s.serves q (.pinFrame q (.other c)) →
       exec (.pinFrame q (.other c)) s = .next (replied q 0x92 .outOfRange [] (s.taken q.port)))) ∧
  (∀ (q : Req) (s : State),
     (s.serves q (.releaseFrame q .next) →
       (s.nextPin = true →
         exec (.releaseFrame q .next) s = .next (replied q 0x93 .ok [] { s.taken q.port with nextPin := false })) ∧
       (∀ n, s.nextPin = false → s.fillingSlot = some n → (s.slot n).pinned = true →
         exec (.releaseFrame q .next) s =
           .next (replied q 0x93 .ok []
             { s.taken q.port with slots := s.slots.modify n fun x => { x with pinned := false } })) ∧
       (s.nextPin = false → (∀ n, s.fillingSlot = some n → (s.slot n).pinned = false) →
         exec (.releaseFrame q .next) s = .next (replied q 0x93 .noFrame [] (s.taken q.port)))) ∧
     (∀ t, s.serves q (.releaseFrame q (.tag t)) →
       (4095 < t → exec (.releaseFrame q (.tag t)) s = .next (replied q 0x93 .outOfRange [] (s.taken q.port))) ∧
       (t ≤ 4095 → (∀ n ∈ s.held, (s.slot n).tag ≠ t) →
         exec (.releaseFrame q (.tag t)) s = .next (replied q 0x93 .noFrame [] (s.taken q.port))) ∧
       (t ≤ 4095 → s.heldWithTag t ≠ [] → (∀ m ∈ s.heldWithTag t, (s.slot m).pinned = false) →
         exec (.releaseFrame q (.tag t)) s = .next (replied q 0x93 .ok [] (s.taken q.port))) ∧
       (∀ before n after, t ≤ 4095 → s.heldWithTag t = before ++ n :: after → n < s.slots.length →
         (∀ m ∈ before, (s.slot m).pinned = false) → (s.slot n).pinned = true → (s.slot n).state = .held →
         exec (.releaseFrame q (.tag t)) s =
           .next (replied q 0x93 .ok []
             (if (s.slot n).count = 0 then
               { s.taken q.port with
                 slots := s.slots.modify n fun x => { x with state := .free, pinned := false, count := 0 }
                 held := s.held.filter (· ≠ n) }
             else { s.taken q.port with slots := s.slots.modify n fun x => { x with pinned := false } })))) ∧
     (∀ c, s.serves q (.releaseFrame q (.other c)) →
       exec (.releaseFrame q (.other c)) s = .next (replied q 0x93 .outOfRange [] (s.taken q.port))))

/-- The seven queries without a side effect are answered OK with their data as they stand, field by field, and nothing changes
but the reply's place, their request's place and the model's counter of free values; in RUN and SETUP alike (R19, R38, R80,
R137, R148, R157, R163). The bytes that R167 leaves open are log 18's; a FREE slot's tag is a free value (log 7). -/
def Obligations.QueriesOnlyReply : Prop :=
  ∀ (q : Req) (s : State),
    let part := fun (l : Option (List Byte)) => match l with
      | none => u8 0
      | some l => u8 1 ++ l
    (s.serves q (.queryFrames q) →
      let c := s.capture
      exec (.queryFrames q) s =
        .next (replied q 0x94 .ok
          (u8 c.mode.code ++ u16 c.tag ++
            part (c.latestClass.map fun x => u8 (if x = .lit then 0 else 1)) ++
            u16 c.period ++ part (c.pendingPeriod.map u16) ++
            u8 c.pattern.length ++ u16 c.pattern.lit ++ u8 c.position ++ flag c.pendingPattern.isSome ++
            u8 c.requested ++ u8 c.index ++ flag c.pendingTable.isSome ++ u16 c.skipA ++ u16 c.skipB ++
            ([0, 1, 2, 3].flatMap fun n =>
              u8 (s.slot n).state.code ++
              u16 (if (s.slot n).state = .free then Config.freeSlotTag s.freeCount n % 4096 else (s.slot n).tag) ++
              flag (s.slot n).pinned ++ u8 (s.slot n).count) ++
            s.held.flatMap u8 ++ flag s.nextPin)
          { s.taken q.port with freeCount := s.freeCount + 1 })) ∧
    (s.serves q (.queryStatistics q) →
      exec (.queryStatistics q) s =
        .next (replied q 0x9B .ok
          (part (s.cond.latest.map fun r =>
              u16 r.tag ++ r.zoneCounts.flatMap u16 ++ r.means.flatMap u16 ++ r.hots.flatMap u32 ++ u16 r.measured ++
              u16 r.pattern) ++
            u16 s.cond.glareLevel ++ u16 s.cond.hotThreshold ++ s.cond.zoneCounts.flatMap u16 ++ flag s.cond.changed)
          (s.taken q.port))) ∧
    (s.serves q (.queryViews q) →
      let slot := fun x : ViewSlot => u8 x.active ++ (match x.pending with
        | .absent => u8 0 ++ u8 0
        | .profile n b => u8 1 ++ u8 n ++ (u8 1 ++ u8 b.code)
        | .unbind => u8 2 ++ u8 0)
      let buffer := fun m : MeshBuffer => u8 m.state.code ++ part (m.selector.map u8) ++ u8 m.uses
      exec (.queryViews q) s =
        .next (replied q 0xB6 .ok
          (u8 s.table.limit ++ slot s.viewA ++ slot s.viewB ++
            buffer s.viewA.buffer0 ++ buffer s.viewA.buffer1 ++ buffer s.viewB.buffer0 ++ buffer s.viewB.buffer1 ++
            s.table.holds.flatMap u8 ++
            ((List.range s.table.profiles.length).filter fun n => (s.profile n).mark != .none).flatMap fun n =>
              u8 n ++ u8 (s.profile n).mark.code)
          (s.taken q.port))) ∧
    (s.serves q (.queryBalance q) →
      let r := s.ring
      let b := r.balance
      exec (.queryBalance q) s =
        .next (replied q 0xC5 .ok
          (u8 r.state.code ++ u8 r.trip.code ++
            u8 ((if r.causes.offTrip then 1 else 0) + (if r.causes.leak then 2 else 0) + if r.causes.silent then 4 else 0) ++
            flag r.demand ++ u8 r.band.code ++ flag r.bandReported ++ u8 (if r.presence then 0 else 1) ++
            flag r.presenceReported ++ u16 r.budget ++
            u16 ((r.channels.filter fun c => c.enabled && c.state == .normal).map (·.dmin)).sum ++ u16 r.effective ++
            r.codes.flatMap u16 ++ u16 r.codes.sum ++
            (r.channels.flatMap fun c =>
              flag c.enabled ++ u16 c.dmin ++ u16 c.dmax ++ u16 c.start ++ u16 c.limit ++ u8 c.state.code) ++
            (u8 b.loopMode.code ++ u16 b.target ++ u16 b.kp ++ u16 b.slew ++ u16 b.deadband ++ u16 b.mask ++
              flag b.autoExposure ++ u16 b.margin ++ u16 b.forced) ++
            flag r.flatHold ++
            part (r.last.map fun x => u16 x.tag ++ (match x.outcome with
              | .notLit => u8 0 ++ u8 0
              | .manual => u8 1 ++ u8 0
              | .held => u8 2 ++ u8 0
              | .applied g scaled change => u8 3 ++ (u8 1 ++ u8 g.code ++ flag scaled ++ u8 (change % 256).toNat))))
          (s.taken q.port))) ∧
    (s.serves q (.queryTrip q) →
      let x := s.sup
      exec (.queryTrip q) s =
        .next (replied q 0xC9 .ok
          (u8 x.level.code ++ u8 x.count ++ (u16 x.total ++ u8 x.dimCount ++ u8 x.offCount ++ u16 x.openLevel) ++
            u8 x.ring.code ++
            part (x.sample.map fun y =>
              u16 y.tag ++ y.samples.flatMap u16 ++ u16 y.samples.sum ++ y.codes.flatMap u16 ++ u8 y.ring.code ++
              u8 (if y.cause.isSome then 0 else 1) ++ part (y.cause.map u8)) ++
            part (x.dimPart.map fun y => u16 y.tag ++ u8 y.cause ++ y.samples.flatMap u16 ++ u16 y.samples.sum) ++
            part (x.offPart.map fun y => u16 y.tag ++ u8 y.cause))
          (s.taken q.port))) ∧
    (s.serves q (.queryFaults q) →
      exec (.queryFaults q) s =
        .next (replied q 0xD0 .ok
          ((FaultKind.all.flatMap fun k =>
              let e := s.faults.entry k
              u8 (if e.set then 0 else 1) ++ u8 e.severity.code ++ flag e.masked ++ part (e.tag.map u16) ++ u16 e.count ++
              flag (s.conditionStands k)) ++
            flag s.faults.lineEnabled ++ flag s.faults.line)
          (s.taken q.port))) ∧
    (s.serves q (.queryHead q) →
      let h := s.head
      let input := fun l : InputLine => u8 l.accepted.code ++ part (l.candidate.map fun c => u8 (if c.1 then 1 else 2))
      exec (.queryHead q) s =
        .next (replied q 0xD3 .ok
          (input h.leak ++ input h.warm ++ input h.hot ++ input h.present ++
            u8 (if h.hot.accepted = .active then 2
              else if h.warm.accepted = .active then 1
              else if h.warm.accepted = .unknown ∧ h.hot.accepted = .unknown then 3 else 0) ++
            flag (decide (h.leak.accepted ≠ .inactive ∨ h.silent = true)) ++ flag h.silent ++
            part (h.transfer.map fun x => u8 (match x with
              | .read => 0
              | .supplyWrite _ => 1
              | .setUp _ => 2)) ++
            flag h.pendingRead ++ part (h.pendingWrite.map flag) ++ u8 h.supply.code ++ flag h.interrupt)
          (s.taken q.port)))

/-- A frame start from the timer with no readout in flight: the tag rises, the pending settings are applied, the pattern
position advances or starts anew, the index in effect is formed, the maps are latched, a lit frame claims the lowest
FREE slot with its tag and a pending next pin, or is counted as skipped for each of its views, and the exposure
begins; in STOPPED and EXPOSING no frame start occurs (R1 to R6, R10, R15, R27; log 3, log 15). A frame start from the
timer while a readout is in flight is missed: the tag, the pending settings and the position go on as at any frame
start, a frame classed lit is counted for each of its views, and the frame in readout, the slots, the next pin, the
in-use maps and the exposure note stay as they are (R11, R15 (2), R27). The index in effect is the largest one not
above the requested index whose entry is at most the limit, and the exposure time is its entry; when even entry 0
exceeds the limit the index is 0 and the time the limit (R3). At every frame start each view slot acts on its pending
change, slot A first (log 43): a READY PROFILE is adopted, UNBIND makes the slot null, a build that is WAITING or BUILDING
stays (R77, R79, R89); an exposure notes the active views and begins a use of their buffers (R10 (3), R84, R98). Every frame
start notes the kind and number of the acquisition in flight, which is the mark of an exposed frame (R51). -/
def Obligations.FrameStarts : Prop :=
  (∀ s : State,
     (s.capture.mode = .stopped ∨ s.capture.mode = .exposing → exec .frameStart s = .next s) ∧
     (s.capture.mode = .waiting → ∃ t, exec .frameStart s = .next t ∧ frameBegins s.skip s t ∧
       t.capture.tag = (s.capture.tag + 1) % 4096 ∧
       t.capture.position =
         (if s.capture.pendingPattern.isSome then 0
         else if s.capture.position + 1 < s.capture.pattern.length then s.capture.position + 1 else 0) ∧
       t.tether = (adoptViews s).tether ∧ t.head = s.head ∧
       t.ring = { s.ring with
         note := if t.capture.latestClass = some .lit then some s.ring.state else s.ring.note } ∧
       t.held = s.held ∧ t.cal = s.cal ∧ t.sup = s.sup ∧
       t.faults = s.faults ∧ t.warp = s.warp ∧ t.frameStore = s.frameStore ∧ t.mode = s.mode)) ∧
  (∀ s : State, s.capture.mode = .readout → ∃ t, exec .frameStart s = .next t ∧
     t.capture.mode = .readout ∧ t.capture.tag = (s.capture.tag + 1) % 4096 ∧ t.capture.frame = s.capture.frame ∧
     t.capture.rows = s.capture.rows ∧ t.capture.zoneSums = s.capture.zoneSums ∧
     t.capture.period = s.capture.pendingPeriod.getD s.capture.period ∧ t.capture.pendingPeriod = none ∧
     t.capture.table = s.capture.pendingTable.getD s.capture.table ∧ t.capture.pendingTable = none ∧
     t.capture.pattern = s.capture.pendingPattern.getD s.capture.pattern ∧ t.capture.pendingPattern = none ∧
     t.capture.position =
       (if s.capture.pendingPattern.isSome then 0
       else if s.capture.position + 1 < s.capture.pattern.length then s.capture.position + 1 else 0) ∧
     t.capture.latestClass =
       some (if s.cal.acq.any (fun a => a.kind == .dark) = true then .darkAcquisition
         else if t.capture.pattern.lit.testBit t.capture.position = true then .lit else .darkPattern) ∧
     t.capture.latestAcq = s.cal.acq.map (fun a => (a.kind, a.number)) ∧
     t.capture.skipA =
       (if t.capture.latestClass = some .lit ∧ t.viewA.active ≠ 0 then min 65535 (s.capture.skipA + 1)
       else s.capture.skipA) ∧
     t.capture.skipB =
       (if t.capture.latestClass = some .lit ∧ t.viewB.active ≠ 0 then min 65535 (s.capture.skipB + 1)
       else s.capture.skipB) ∧
     t.table = (adoptViews s).table ∧ t.tether = (adoptViews s).tether ∧ (∀ v, t.view v = (adoptViews s).view v) ∧
     t.slots = s.slots ∧ t.nextPin = s.nextPin ∧ t.held = s.held ∧ t.cond = s.cond ∧ t.ring = s.ring ∧ t.cal = s.cal ∧
     t.sup = s.sup ∧ t.faults = s.faults ∧ t.warp = s.warp ∧ t.frameStore = s.frameStore ∧ t.mode = s.mode) ∧
  (∀ (v : View) (s : State), s.viewsWell →
     adoptViews s = actOnPending .b (actOnPending .a s) ∧ (actOnPending v s).viewsWell ∧
     ((s.view v).pending = .absent ∨ (∃ n, (s.view v).pending = .profile n .waiting ∨
         (s.view v).pending = .profile n .building) → actOnPending v s = s) ∧
     (∀ n b, (s.view v).pending = .profile n .ready → b < 2 → ((s.view v).buffer b).state = .ready →
       slotAdopts v n b s (actOnPending v s)) ∧
     ((s.view v).pending = .unbind → slotBecomesNull v s (actOnPending v s))) ∧
  (∀ (table : List Nat) (requested limit : Nat),
     (table.getD 0 0 ≤ limit →
       (exposureFor table requested limit).1 ≤ requested ∧
       table.getD (exposureFor table requested limit).1 0 ≤ limit ∧
       (exposureFor table requested limit).2 = table.getD (exposureFor table requested limit).1 0 ∧
       ∀ i, i ≤ requested → table.getD i 0 ≤ limit → i ≤ (exposureFor table requested limit).1) ∧
     ((∀ i, i ≤ requested → limit < table.getD i 0) → exposureFor table requested limit = (0, limit)))

/-- An exposure end begins the readout: a dark frame with its zone sums at 0, a lit one with its accumulators at 0; without a
lit exposure in LIT or DIM the supervisor takes no sample set and nothing else changes; outside EXPOSING nothing happens (R12,
R31, R139; log 3). A lit exposure end in LIT or DIM takes a sample set with the frame's tag, the drive codes and the ring
state, over limit when some sample is above its channel's limit or the sum above the total limit; the over-limit count rises
on an over-limit set, staying at the off count, and else becomes 0. A count that rises to the off count trips the ring off:
LOCKED_OFF, the codes 0, the supply demand OFF with a write asked for (R155; log 46), trip level TWO; one that rises to the
dim count in LIT fills the DIM part and raises RING_DIM_TRIP, and below the off count dims the ring: DIM with dmin in each
usable channel, trip level ONE. With no rise, or one that reaches neither, ring state, trip level and parts stay (R139, R141,
R144 to R146). A change of the ring state ends a flat-field acquisition in flight FAILED, with its notice and without its hold
of the loop, and nothing else touches an acquisition (R61). The twelve outputs are the drive codes exactly in a lit exposure
with the ring LIT or DIM, and 0 otherwise (R121). A channel is found open exactly when it is enabled and NORMAL, its code at
least 64 and its sample below the open threshold; each found one becomes OPEN with code 0 and raises CHANNEL_OPEN, and an OPEN
channel's state is the only thing of the channels that an exposure end changes (R126, R142). Without a trip the reports are
all that the ring takes, in order of number: the found code 0 and, in LIT, the budget step on the present codes, so that a
safe ring's other codes stay. -/
def Obligations.ExposureEnds : Prop :=
  (∀ (l : List Nat) (s : State), l.length = 12 → (∀ n ∈ l, n ≤ 4095) →
     (s.capture.mode ≠ .exposing → exec (.exposureEnd l) s = .next s) ∧
     (∀ f, s.capture.mode = .exposing → s.capture.frame = some f → f.cls ≠ .lit →
       exec (.exposureEnd l) s = .next { s with
         capture.mode := .readout, capture.rows := 0, capture.zoneSums := List.replicate 1024 0 }) ∧
     (∀ f, s.capture.mode = .exposing → s.capture.frame = some f → f.cls = .lit → s.sup.ring ≠ .lit → s.sup.ring ≠ .dim →
       exec (.exposureEnd l) s = .next { s with
         capture.mode := .readout, capture.rows := 0
         cond.acc := some ⟨List.replicate 12 0, List.replicate 12 0, List.replicate 12 0, List.replicate 1024 0⟩ })) ∧
  (∀ (l : List Nat) (f : Frame) (s : State), l.length = 12 → (∀ n ∈ l, n ≤ 4095) → s.capture.mode = .exposing →
     s.capture.frame = some f → f.cls = .lit → s.sup.ring = .lit ∨ s.sup.ring = .dim →
     ∃ t cause, exec (.exposureEnd l) s = .next t ∧
       t.sup.sample = some ⟨f.tag, l, s.ring.codes, s.sup.ring, cause⟩ ∧
       (cause = none ↔
         (∀ k, k < 12 → l.getD k 0 ≤ (s.ring.channels.getD k Channel.atReset).limit) ∧ l.sum ≤ s.sup.total) ∧
       (∀ k, cause = some k → k < 12 →
         (s.ring.channels.getD k Channel.atReset).limit < l.getD k 0 ∧
         ∀ j, j < k → l.getD j 0 ≤ (s.ring.channels.getD j Channel.atReset).limit) ∧
       (cause = some 12 ↔
         (∀ k, k < 12 → l.getD k 0 ≤ (s.ring.channels.getD k Channel.atReset).limit) ∧ s.sup.total < l.sum) ∧
       t.sup.count =
         (if cause = none then 0 else if s.sup.count < s.sup.offCount then s.sup.count + 1 else s.sup.offCount) ∧
       (s.sup.count < t.sup.count → t.sup.count = s.sup.offCount →
         t.ring.state = .lockedOff ∧ t.ring.codes = List.replicate 12 0 ∧ t.ring.demand = false ∧ t.ring.trip = .two ∧
         t.ring.causes.offTrip = true ∧ t.sup.level = .two ∧ t.sup.offPart = some ⟨f.tag, cause.getD 12⟩ ∧
         (t.sup.count ≠ s.sup.dimCount ∨ s.sup.ring ≠ .lit → t.sup.dimPart = s.sup.dimPart) ∧
         (s.faults.entries.length = 12 → (t.faults.entry .ringOffTrip).set = true)) ∧
       (s.sup.count < t.sup.count → t.sup.count = s.sup.dimCount → t.sup.count ≠ s.sup.offCount → s.sup.ring = .lit →
         t.ring.state = .dim ∧ (t.ring.codes = t.ring.channels.map fun c => if c.usable then c.dmin else 0) ∧
         t.ring.trip = .one ∧ t.sup.level = .one ∧ t.sup.offPart = s.sup.offPart ∧ t.ring.demand = s.ring.demand) ∧
       (s.sup.count < t.sup.count → t.sup.count = s.sup.dimCount → s.sup.ring = .lit →
         t.sup.dimPart = some ⟨f.tag, cause.getD 12, l⟩ ∧
         (s.faults.entries.length = 12 → (t.faults.entry .ringDimTrip).set = true)) ∧
       (t.sup.count ≤ s.sup.count ∨
           t.sup.count ≠ s.sup.offCount ∧ (t.sup.count ≠ s.sup.dimCount ∨ s.sup.ring ≠ .lit) →
         t.ring.state = s.ring.state ∧ t.sup.level = s.sup.level ∧ t.ring.trip = s.ring.trip ∧
         t.sup.dimPart = s.sup.dimPart ∧ t.sup.offPart = s.sup.offPart ∧ t.cal = s.cal ∧
         let found := (List.range 12).filter fun k =>
           (s.ring.channels.getD k Channel.atReset).enabled = true ∧ (s.ring.channels.getD k Channel.atReset).state = .normal ∧
           64 ≤ s.ring.codes.getD k 0 ∧ l.getD k 0 < s.sup.openLevel
         let opened := fun (x : Ring) (k : Nat) =>
           let y : Ring := { x with
             channels := x.channels.modify k fun c => { c with state := .opened }
             codes := x.codes.set k 0 }
           if x.state = .lit then { y with codes := y.budgetStep y.codes } else y
         t.ring = found.foldl opened s.ring ∧
         (s.ringSafe → ∀ k, k < 12 → t.ring.codes.getD k 0 = if k ∈ found then 0 else s.ring.codes.getD k 0)) ∧
       (s.ring.state = s.sup.ring →
         (∀ a, s.cal.acq = some a → a.kind = .flat → t.ring.state ≠ s.ring.state →
           t.cal = { s.cal with acq := none } ∧ t.ring.flatHold = false ∧
           (s.tether.link = .up → s.tether.notices.length ≤ 4 → s.faults.entries.length = 12 →
             ⟨0xF3, 0, u8 1 ++ u8 2 ++ u8 a.taken⟩ ∈ t.tether.sending.toList ++ t.tether.notices)) ∧
         ((∀ a, s.cal.acq = some a → a.kind = .dark) ∨ t.ring.state = s.ring.state →
           t.cal = s.cal ∧ t.ring.flatHold = s.ring.flatHold)) ∧
       t.head = (if s.sup.count < t.sup.count ∧ t.sup.count = s.sup.offCount ∧ s.ring.demand = true then
         s.head.supplyAsked false else s.head) ∧
       t.outputs = List.replicate 12 0 ∧ t.capture.mode = .readout ∧ t.capture.frame = some f ∧ t.slots = s.slots ∧ t.held = s.held ∧
       t.frameStore = s.frameStore ∧ t.store = s.store ∧ t.mode = s.mode) ∧
  (∀ (l : List Nat) (f : Frame) (s t : State), l.length = 12 → s.ring.channels.length = 12 → s.ring.codes.length = 12 →
     s.capture.mode = .exposing → s.capture.frame = some f → f.cls = .lit → s.sup.ring = .lit ∨ s.sup.ring = .dim →
     exec (.exposureEnd l) s = .next t →
     ∀ k, k < 12 →
       let c := s.ring.channels.getD k Channel.atReset
       if c.enabled = true ∧ c.state = .normal ∧ 64 ≤ s.ring.codes.getD k 0 ∧ l.getD k 0 < s.sup.openLevel then
         t.ring.channels.getD k Channel.atReset = { c with state := .opened } ∧ t.ring.codes.getD k 0 = 0 ∧
         (s.faults.entries.length = 12 → (t.faults.entry .channelOpen).set = true)
       else t.ring.channels.getD k Channel.atReset = c) ∧
  (∀ s : State,
     let lit := s.capture.mode = .exposing ∧ (∃ f, s.capture.frame = some f ∧ f.cls = .lit) ∧
       (s.ring.state = .lit ∨ s.ring.state = .dim)
     (lit → s.outputs = s.ring.codes) ∧ (¬ lit → s.outputs = List.replicate 12 0))

/-- A row of a lit frame with a slot is conditioned into the row's places of the slot, pixel (x, y) holding v = (c·g +
512) div 1024 saturated to 4095 with c = p − D saturated to 0; every other place of the Frame Store keeps its pixel,
and the accumulators take the row: per sector the sum and number of v and the number at or above the glare level, per zone the
sum of c, whatever the sector (R12, R20, R23 to R26, R31). A row of a dark frame adds its raw values to the zone
sums of its zone row and stores nothing; a row of a lit frame without a slot only joins the accumulators; a row at any
other time is discarded (R12, R23). -/
def Obligations.SensorRows : Prop :=
  (∀ (l : List Nat) (f : Frame) (n : Nat) (s : State), l.length = 1024 → (∀ p ∈ l, p ≤ 4095) →
     s.capture.mode = .readout → s.capture.frame = some f → f.cls = .lit → f.slot = some n → s.capture.rows < 1024 →
     ∃ t, exec (.sensorRow l) s = .next t ∧
       (∀ x, x < 1024 → t.pixel n x s.capture.rows =
         min 4095 (((l.getD x 0 - s.cond.dark.getD (32 * (s.capture.rows / 32) + x / 32) 0) *
           interpolateGain s.cond.gain x s.capture.rows + 512) / 1024)) ∧
       (∀ a, a < pixelPlace n 0 s.capture.rows ∨ pixelPlace n 0 s.capture.rows + 1024 ≤ a →
         Memory.read 0 t.frameStore a = Memory.read 0 s.frameStore a) ∧
       (∀ w, w ∈ t.badWords ↔ w ∈ s.badWords ∧
         ¬ (pixelPlace n 0 s.capture.rows ≤ 4 * w ∧ 4 * w < pixelPlace n 0 s.capture.rows + 1024)) ∧
       t = { s with
         frameStore := t.frameStore, badWords := t.badWords, capture.rows := s.capture.rows + 1, cond.acc := t.cond.acc } ∧
       (∀ a, s.cond.acc = some a → a.sums.length = 12 → a.counts.length = 12 → a.hots.length = 12 → a.zoneC.length = 1024 →
         ∃ b, t.cond.acc = some b ∧ s.accumulates l a b)) ∧
  (∀ (l : List Nat) (s : State), l.length = 1024 → (∀ p ∈ l, p ≤ 4095) →
     (s.capture.mode ≠ .readout → exec (.sensorRow l) s = .next s) ∧
     (∀ f, s.capture.mode = .readout → s.capture.frame = some f → f.cls ≠ .lit → s.capture.rows < 1024 →
       s.capture.zoneSums.length = 1024 →
       ∃ t, exec (.sensorRow l) s = .next t ∧
         t = { s with capture.zoneSums := t.capture.zoneSums, capture.rows := s.capture.rows + 1 } ∧
         (∀ z, z < 1024 → t.capture.zoneSums.getD z 0 =
           if z / 32 = s.capture.rows / 32 then
             s.capture.zoneSums.getD z 0 + ((List.range 32).map fun i => l.getD (32 * (z % 32) + i) 0).sum
           else s.capture.zoneSums.getD z 0)) ∧
     (∀ f, s.capture.mode = .readout → s.capture.frame = some f → f.cls = .lit → f.slot = none → s.capture.rows < 1024 →
       ∃ t, exec (.sensorRow l) s = .next t ∧
         t = { s with capture.rows := s.capture.rows + 1, cond.acc := t.cond.acc } ∧
         (∀ a, s.cond.acc = some a → a.sums.length = 12 → a.counts.length = 12 → a.hots.length = 12 →
           a.zoneC.length = 1024 → ∃ b, t.cond.acc = some b ∧ s.accumulates l a b)))

/-- Dark subtraction: c is the pixel minus the in-use dark value D of its zone, 0 for a pixel below D, within 0 to 4095; a
pixel below D yields v = 0 as well (R24). Gain interpolation: g is the weighted sum of the four nodes around the
pixel's zone, divided by 1024 and rounded to nearest, halves up; it lies within the smallest and the largest of the
four, and so within 0 to 4095, and at a node's own position it is that node's gain (R25). -/
def Obligations.PixelsAreConditioned : Prop :=
  (∀ (s : State) (x y p : Nat), x < 1024 → y < 1024 → p ≤ 4095 →
     let D := s.cond.dark.getD (32 * (y / 32) + x / 32) 0
     let cv := conditionPixel s.cond.dark s.cond.gain x y p
     ((cv.1 : Int) = if (p : Int) - D < 0 then 0 else (p : Int) - D) ∧ cv.1 ≤ 4095 ∧ (p < D → cv = (0, 0))) ∧
  (∀ (s : State) (x y lo hi : Nat), x < 1024 → y < 1024 →
     let node := fun a b => s.cond.gain.getD (33 * (y / 32 + b) + (x / 32 + a)) 0
     let fx := x % 32
     let fy := y % 32
     let top := node 0 0 * (32 - fx) + node 1 0 * fx
     let bottom := node 0 1 * (32 - fx) + node 1 1 * fx
     interpolateGain s.cond.gain x y = (top * (32 - fy) + bottom * fy + 512) / 1024 ∧
     ((∀ a b, a ≤ 1 → b ≤ 1 → lo ≤ node a b ∧ node a b ≤ hi) →
       lo ≤ interpolateGain s.cond.gain x y ∧ interpolateGain s.cond.gain x y ≤ hi) ∧
     (fx = 0 → fy = 0 → interpolateGain s.cond.gain x y = node 0 0))

/-- Readout completion of a lit frame whose rows have all arrived: WAITING; the sector statistics are formed from the
accumulators, means rounded down and 0 for a sector without zones, the measured hot set from the threshold and the sector
mask, the hot pattern with the forced-hot mask, and kept as the latest; a slot is HELD with the frame record and a count of
its views, whose live entries join the tail of the warp queue in order, the first starting on an idle engine: its FRAME BEGIN
placed with the skip count, which becomes 0, or waiting, or with the link not UP discarded and the frame counted as skipped
for that view (R15 (4), R101, R111); without a view an unpinned slot is FREE at once. The Ring Controller takes the record as
BalanceUpdateMovesCodes says, before (log 17) the zone c sums count for the flat-field acquisition that the frame is marked
with; the last of them writes the gain map, breaks every link on it, ends the hold of the balance loop and the acquisition,
and queues ACQUISITION ENDED with COMPLETE, before the FRAME BEGIN (log 13); any other frame leaves the unit as it is. Without
the last row, or for a dark frame, nothing happens (R8, R13, R32, R33, R51, R55, R58, R98, R131; log 3, log 9). A Warp Engine
that runs or closes goes on as it was: the entries join the tail of its queue, and the tether and the skip counts stay (R97,
R101); a record that waits while a place is free, which no event leaves, is left out. -/
def Obligations.ReadoutCompletionLit : Prop :=
  ∀ (f : Frame) (a : Accumulators) (s : State), s.capture.frame = some f → s.cond.acc = some a →
    (s.capture.mode ≠ .readout ∨ f.cls ≠ .lit ∨ s.capture.rows < 1024 → exec .readoutCompletionLit s = .next s) ∧
    (s.capture.mode = .readout → f.cls = .lit → s.capture.rows = 1024 →
      (s.warp.engine = .running ∧ (s.warp.waiting = .nothing ∨ 16 ≤ s.tether.images.length)) ∨
        (s.warp.engine = .closing ∧ s.warp.discarding = false ∧ 16 ≤ s.tether.images.length) ∨
        (s.warp.engine = .idle ∧ s.warp.queue = []) →
      let entries := fun n : Nat => f.views.map fun v =>
        (⟨.live, n, f.tag, v.view, v.buffer, v.selector, v.copy, f.record⟩ : WarpEntry)
      ∃ t st, exec .readoutCompletionLit s = .next t ∧ t.capture.mode = .waiting ∧ t.capture.frame = none ∧
        t.cond.latest = some st ∧ t.cond.acc = none ∧ st.tag = f.tag ∧ st.zoneCounts = s.cond.zoneCounts ∧
        st.hots = a.hots ∧
        (∀ k, k < 12 →
          st.means.getD k 0 =
            (if s.cond.zoneCounts.getD k 0 = 0 then 0 else a.sums.getD k 0 / a.counts.getD k 0) ∧
          (st.measured.testBit k = true ↔
            s.cond.hotThreshold ≤ a.hots.getD k 0 ∧ s.ring.balance.mask.testBit k = true) ∧
          (st.pattern.testBit k = true ↔
            st.measured.testBit k = true ∨ s.ring.balance.forced.testBit k = true)) ∧ st.pattern < 4096 ∧
        (∀ n, f.slot = some n → n < s.slots.length → f.views ≠ [] →
          t.slots = (s.slots.modify n fun x => { x with state := .held, count := f.views.length, record := f.record }) ∧
          t.held = s.held ++ [n] ∧ t.warp.queue = s.warp.queue ++ entries n ∧
          (s.warp.engine = .idle → t.warp.engine = .running) ∧
          (s.warp.engine ≠ .idle → t.warp = { s.warp with queue := s.warp.queue ++ entries n })) ∧
        (∀ n, f.slot = some n → n < s.slots.length → f.views = [] →
          t.warp = s.warp ∧
          if (s.slot n).pinned = true then (t.slot n).state = .held ∧ (t.slot n).count = 0 ∧ t.held = s.held ++ [n]
          else (t.slot n).state = .free ∧ n ∉ t.held) ∧
        (f.slot = none → t.slots = s.slots ∧ t.held = s.held ∧ t.warp = s.warp) ∧
        t.capture.requested = (balanceHandOver st s).capture.requested ∧
        (s.cal.acq = none ∨ (∃ q, s.cal.acq = some q ∧ (q.kind ≠ .flat ∨ f.acq ≠ some (.flat, q.number))) →
          t.ring = (balanceHandOver st s).ring ∧ t.cal = s.cal ∧ t.linkTether = s.linkTether ∧
          t.linkService = s.linkService ∧ t.cond.changed = s.cond.changed) ∧
        (∀ q, s.mode = .run → s.cal.acq = some q → q.kind = .flat → f.acq = some (.flat, q.number) →
          let totals := List.zipWith (· + ·) q.totals a.zoneC
          (q.taken + 1 < q.frames →
            t.ring = (balanceHandOver st s).ring ∧ t.linkTether = s.linkTether ∧ t.linkService = s.linkService ∧
            t.cal = { s.cal with acq := some { q with taken := q.taken + 1, totals := totals } } ∧
            t.cond.changed = s.cond.changed) ∧
          (q.frames ≤ q.taken + 1 →
            t.ring = { (balanceHandOver st s).ring with flatHold := false } ∧
            t.cal = { s.cal with acq := none, gain := acquiredGain q.frames q.target totals } ∧
            t.linkTether = s.linkTether.filter (fun r => r.map = .dark) ∧
            t.linkService = s.linkService.filter (fun r => r.map = .dark) ∧ t.cond.changed = true)) ∧
        let noticed := match s.cal.acq with
          | none => s.tether
          | some q =>
            if q.kind = .flat ∧ f.acq = some (.flat, q.number) ∧ q.frames ≤ q.taken + 1 then
              s.tether.pushNotice ⟨0xF3, 0, u8 1 ++ u8 0 ++ u8 (q.taken + 1)⟩
            else s.tether
        (f.slot = none ∨ f.views = [] ∨ s.warp.engine ≠ .idle → t.tether = noticed ∧ ∀ w, t.skip w = s.skip w) ∧
        (∀ n v l, s.warp.engine = .idle → f.slot = some n → f.views = v :: l →
          let e : WarpEntry := ⟨.live, n, f.tag, v.view, v.buffer, v.selector, v.copy, f.record⟩
          t.warp.next = 0 ∧ t.warp.placed = 0 ∧ (t.warp.discarding = true ↔ s.tether.link ≠ .up) ∧
          (s.tether.link ≠ .up → t.warp.waiting = .nothing ∧ t.tether = noticed ∧
            ∀ w, t.skip w = if w = v.view then min 65535 (s.skip w + 1) else s.skip w) ∧
          (s.tether.link = .up → s.tether.images.length < 16 →
            t.warp.waiting = .nothing ∧ t.tether = noticed.pushImage (frameBeginRecord e (s.skip v.view)) ∧
            ∀ w, t.skip w = if w = v.view then 0 else s.skip w) ∧
          (s.tether.link = .up → 16 ≤ s.tether.images.length →
            t.warp.waiting = .frameBegin ∧ t.tether = noticed ∧ ∀ w, t.skip w = s.skip w)) ∧
        t.cond.dark = s.cond.dark ∧ (s.mode = .run → t.cond.gain = s.cond.gain) ∧
        t.frameStore = s.frameStore ∧ t.faults = s.faults ∧ t.capture.tag = s.capture.tag)

/-- What a statistics record does at the Ring Controller: without a LIT exposure and a LIT ring, in loop mode MANUAL, or under
a flat-field acquisition only the last update is written, with NOT_LIT, MANUAL or HELD (R131); else under HOLD and SHORTEN the
codes within the budget stay, SHORTEN lowering the requested index (R132 (3) and (4)). Under NORMAL and DIM_HOT each loop channel
proposes its code moved by its error times Kp over 4096, rounded halves away from zero and held to the slew limit, within the
deadband not at all, and under DIM_HOT each hot channel its code less the slew limit, all held to dmin to dmax (R132, R133);
the budget step settles them, its scaling noted (R134); and auto-exposure raises the requested index when every channel it
watches is at its top, or the step scaled, and their mean lies below the target by more than the margin, and lowers it when
every one is at its bottom and the mean lies above by more, within 0 to 15 (R135). Nothing else changes. -/
def Obligations.BalanceUpdateMovesCodes : Prop :=
  ∀ (st : SectorStats) (s : State),
    (s.ring.note ≠ some .lit ∨ s.ring.state ≠ .lit →
      balanceHandOver st s = { s with ring.last := some ⟨st.tag, .notLit⟩ }) ∧
    (s.ring.note = some .lit → s.ring.state = .lit → s.ring.balance.loopMode = .manual →
      balanceHandOver st s = { s with ring.last := some ⟨st.tag, .manual⟩ }) ∧
    (s.ring.note = some .lit → s.ring.state = .lit → s.ring.balance.loopMode = .loop → s.ring.flatHold = true →
      balanceHandOver st s = { s with ring.last := some ⟨st.tag, .held⟩ }) ∧
    (s.ring.note = some .lit → s.ring.state = .lit → s.ring.balance.loopMode = .loop → s.ring.flatHold = false →
      (s.ring.codes.sum ≤ s.ring.effective →
        (s.ring.glare.getD st.pattern .normal = .hold →
          balanceHandOver st s = { s with ring.last := some ⟨st.tag, .applied .hold false 0⟩ }) ∧
        (s.ring.glare.getD st.pattern .normal = .shorten →
          balanceHandOver st s = { s with
            capture.requested := s.capture.requested - 1
            ring.last := some ⟨st.tag, .applied .shorten false
              (((s.capture.requested - 1 : Nat) : Int) - s.capture.requested)⟩ })) ∧
      (∀ g, s.ring.glare.getD st.pattern .normal = g → g = .normal ∨ g = .dimHot →
        s.ring.channels.length = 12 → s.ring.codes.length = 12 → (∀ c ∈ s.ring.channels, c.dmin ≤ c.dmax) →
        let b := s.ring.balance
        let channel := fun k => s.ring.channels.getD k Channel.atReset
        let usable := fun k => (channel k).enabled && (channel k).state == .normal
        let watched := fun k => usable k && b.mask.testBit k && decide (0 < st.zoneCounts.getD k 0)
        ∃ proposed : List Nat, proposed.length = 12 ∧
          (∀ k, k < 12 →
            let d : Int := s.ring.codes.getD k 0
            let e : Int := (b.target : Int) - (st.means.getD k 0 : Nat)
            let rounded : Int := ((2 * (e.natAbs * b.kp) + 4096) / 8192 : Nat)
            let step : Int :=
              if e.natAbs ≤ b.deadband then 0 else max (-(b.slew : Int)) (min b.slew (if e < 0 then -rounded else rounded))
            let held := fun n : Int => max ((channel k).dmin : Int) (min (channel k).dmax n)
            (proposed.getD k 0 : Int) =
              if g = .dimHot ∧ usable k = true ∧ st.pattern.testBit k = true then held (d - b.slew)
              else if watched k = true then held (d + step) else d) ∧
          ∃ change : Int,
            balanceHandOver st s = { s with
              capture.requested := ((s.capture.requested : Int) + change).toNat
              ring.codes := s.ring.budgetStep proposed
              ring.last := some ⟨st.tag, .applied g (decide (s.ring.effective < proposed.sum)) change⟩ } ∧
            let u := (List.range 12).filter watched
            let mean : Int := ((u.map fun k => st.means.getD k 0).sum / u.length : Nat)
            let code := fun k => (s.ring.budgetStep proposed).getD k 0
            let rises := b.autoExposure = true ∧ u ≠ [] ∧
              (∀ k ∈ u, s.ring.effective < proposed.sum ∨ code k = (channel k).dmax) ∧ mean < (b.target : Int) - b.margin
            let falls := b.autoExposure = true ∧ u ≠ [] ∧ (∀ k ∈ u, code k = (channel k).dmin) ∧
              (b.target : Int) + b.margin < mean
            (rises → change = if s.capture.requested < 15 then 1 else 0) ∧
            (¬ rises → falls → change = if s.capture.requested = 0 then 0 else -1) ∧
            (¬ rises → ¬ falls → change = 0)))

/-- Readout completion of a dark frame of the pattern refreshes every zone of the dark map, while refresh is on, from the
values before the event by the weight shift; a port's link on the dark map breaks exactly when a zone in its region changes;
no slot and no statistics change (R14, R49, R50). Readout completion of a dark frame marked with the dark acquisition
in flight adds its zone sums to the totals; the last one writes the whole dark map, D = T div (1024·N) and at most
1023, breaks every link on it, ends the acquisition and queues ACQUISITION ENDED with COMPLETE; a frame marked
otherwise leaves the unit as it is (R14, R51, R54, R56, R58). -/
def Obligations.DarkFramesRefreshAndCount : Prop :=
  (∀ (f : Frame) (s : State), s.mode = .run → s.capture.mode = .readout → s.capture.frame = some f →
     f.cls = .darkPattern → s.capture.rows = 1024 → s.cal.dark.length = 1024 →
     ∃ t, exec .readoutCompletionDark s = .next t ∧ t.capture.mode = .waiting ∧ t.capture.frame = none ∧
       (∀ z, z < 1024 →
         let m := min 1023 (s.capture.zoneSums.getD z 0 / 1024)
         t.cal.dark.getD z 0 =
           if s.cal.refresh = false then s.cal.dark.getD z 0
           else if s.cal.shift = 0 then m
           else (s.cal.dark.getD z 0 * (2 ^ s.cal.shift - 1) + m + 2 ^ (s.cal.shift - 1)) / 2 ^ s.cal.shift) ∧
       (t.cond.changed = true ↔ s.cond.changed = true ∨ t.cal.dark ≠ s.cal.dark) ∧
       (∀ r, s.linkTether = some r →
         t.linkTether =
           if r.map = .dark ∧ r.indices.any (fun n => s.cal.dark.getD n 0 != t.cal.dark.getD n 0) = true then none
           else some r) ∧
       (∀ r, s.linkService = some r →
         t.linkService =
           if r.map = .dark ∧ r.indices.any (fun n => s.cal.dark.getD n 0 != t.cal.dark.getD n 0) = true then none
           else some r) ∧
       t.cal.gain = s.cal.gain ∧ t.cal.acq = s.cal.acq ∧ t.cond.dark = s.cond.dark ∧ t.cond.latest = s.cond.latest ∧
       t.slots = s.slots ∧ t.held = s.held ∧ t.ring = s.ring ∧ t.faults = s.faults ∧ t.frameStore = s.frameStore) ∧
  (∀ (f : Frame) (a : Acquisition) (s : State), s.mode = .run → s.capture.mode = .readout → s.capture.frame = some f →
     f.cls = .darkAcquisition → s.capture.rows = 1024 → s.cal.acq = some a → a.totals.length = 1024 →
     s.capture.zoneSums.length = 1024 →
     ∃ t, exec .readoutCompletionDark s = .next t ∧ t.capture.mode = .waiting ∧ t.capture.frame = none ∧
       t.slots = s.slots ∧ t.cal.gain = s.cal.gain ∧ t.cond.latest = s.cond.latest ∧
       (a.kind ≠ .dark ∨ f.acq ≠ some (.dark, a.number) →
         t.cal = s.cal ∧ t.linkTether = s.linkTether ∧ t.linkService = s.linkService) ∧
       (a.kind = .dark → f.acq = some (.dark, a.number) → a.taken + 1 < a.frames →
         t.cal = { s.cal with acq := some { a with
           taken := a.taken + 1, totals := List.zipWith (· + ·) a.totals s.capture.zoneSums } }) ∧
       (a.kind = .dark → f.acq = some (.dark, a.number) → a.frames ≤ a.taken + 1 →
         t.cal.acq = none ∧ t.cal.dark.length = 1024 ∧
         (∀ z, z < 1024 → t.cal.dark.getD z 0 =
           min 1023 ((a.totals.getD z 0 + s.capture.zoneSums.getD z 0) / (1024 * a.frames))) ∧
         (∀ r, s.linkTether = some r → t.linkTether = if r.map = .dark then none else some r) ∧
         (∀ r, s.linkService = some r → t.linkService = if r.map = .dark then none else some r) ∧
         t.cond.changed = true ∧ t.tether = s.tether.pushNotice ⟨0xF3, 0, u8 0 ++ u8 0 ++ u8 (a.taken + 1)⟩))

/-- The gain map of a flat-field acquisition: for each node the mean, rounded down, of the zone means of the zones that touch
it (four inside, two on an edge, one in a corner), and the gain that brings it to the target, rounded to nearest with halves
up, at most 4095, and 4095 for a mean of 0 (R57). -/
def Obligations.FlatFieldGains : Prop :=
  ∀ (frames target : Nat) (totals : List Nat) (i j : Nat), i < 33 → j < 33 →
    let zones := ((List.range 32).flatMap fun y => (List.range 32).map fun x => (x, y)).filter fun z =>
      decide ((z.1 = i ∨ z.1 + 1 = i) ∧ (z.2 = j ∨ z.2 + 1 = j))
    let m := (zones.map fun z => totals.getD (32 * z.2 + z.1) 0 / (1024 * frames)).sum / zones.length
    (acquiredGain frames target totals).length = 1089 ∧
    (acquiredGain frames target totals).getD (33 * j + i) 0 =
      if m = 0 then 4095 else min 4095 ((target * 1024 + m / 2) / m)

/-- A sensor timeout abandons the frame in READOUT: SENSOR_TIMEOUT is raised, WAITING, no statistics and no zone sums; the
slot of a lit frame is FREE again, its next pin pending again, and the frame is counted for each of its views; at any other
time the timeout cannot occur (R15 (3), R16, R34; log 3). -/
def Obligations.SensorTimeoutAbandons : Prop :=
  ∀ s : State,
    (s.capture.mode ≠ .readout → exec .sensorTimeout s = .next s) ∧
    (∀ f, s.capture.mode = .readout → s.capture.frame = some f →
      ∃ t, exec .sensorTimeout s = .next t ∧ t.capture.mode = .waiting ∧ t.capture.frame = none ∧
        t.faults = (raise .sensorTimeout s).faults ∧ t.cond = { s.cond with acc := none } ∧ t.cal = s.cal ∧
        t.held = s.held ∧ t.ring = s.ring ∧ t.warp = s.warp ∧ t.capture.tag = s.capture.tag ∧
        (∀ n, f.slot = some n →
          t.slots = (s.slots.modify n fun x => { x with state := .free, pinned := false }) ∧
          t.nextPin = (s.nextPin || (s.slot n).pinned) ∧
          (f.views.map (·.view) = [.a, .b] →
            t.capture.skipA = min 65535 (s.capture.skipA + 1) ∧ t.capture.skipB = min 65535 (s.capture.skipB + 1)) ∧
          (f.views.map (·.view) = [.a] →
            t.capture.skipA = min 65535 (s.capture.skipA + 1) ∧ t.capture.skipB = s.capture.skipB) ∧
          (f.views.map (·.view) = [.b] →
            t.capture.skipA = s.capture.skipA ∧ t.capture.skipB = min 65535 (s.capture.skipB + 1)) ∧
          (f.views = [] → t.capture.skipA = s.capture.skipA ∧ t.capture.skipB = s.capture.skipB)) ∧
        (f.slot = none →
          t.slots = s.slots ∧ t.nextPin = s.nextPin ∧ t.capture.skipA = s.capture.skipA ∧
          t.capture.skipB = s.capture.skipB))

/-! ### Chapters 2 and 3: requests -/

/-- Write Sector Map is refused with REFUSED_MODE in RUN and with OUT_OF_RANGE when an entry names neither a sector 0 to 11 nor
NONE (code 12), the map unchanged; else the 1024 entries replace the map, entry 32·y + x being zone (x, y)'s, the twelve zone
counts are formed anew, and the reply carries them (R29, R30, R167). -/
def Obligations.WriteSectorMapReplaces : Prop :=
  ∀ (q : Req) (l : List Nat) (s : State), s.serves q (.writeSectorMap q l) →
    (s.mode = .run → exec (.writeSectorMap q l) s = .next (replied q 0x98 .refusedMode [] (s.taken q.port))) ∧
    (s.mode = .setup → (∃ k ∈ l, 12 < k) →
      exec (.writeSectorMap q l) s = .next (replied q 0x98 .outOfRange [] (s.taken q.port))) ∧
    (s.mode = .setup → (∀ k ∈ l, k ≤ 12) →
      ∃ counts, counts.length = 12 ∧ (∀ k, k < 12 → counts.getD k 0 = (l.filter (· = k)).length) ∧
        (∀ x y, x < 1024 → y < 1024 → sectorOf l x y = l.getD (32 * (y / 32) + x / 32) 0) ∧
        exec (.writeSectorMap q l) s =
          .next (replied q 0x98 .ok (counts.flatMap u16)
            { s.taken q.port with cond.sectorMap := l, cond.zoneCounts := counts }))

/-- Five settings requests: each is refused, changing nothing, by the mode where its rule has a mode check and by the range of
a field, and else replaces its settings whole and nothing else (R35, R48, R68, R129, R140). -/
def Obligations.SettingsRequestsReplace : Prop :=
  ∀ (q : Req) (s : State),
    (∀ glare hot, s.serves q (.writeStatisticsSettings q glare hot) →
      exec (.writeStatisticsSettings q glare hot) s =
        .next (if s.mode = .run then replied q 0x99 .refusedMode [] (s.taken q.port)
          else if 4095 < glare ∨ hot = 0 then replied q 0x99 .outOfRange [] (s.taken q.port)
          else replied q 0x99 .ok [] { s.taken q.port with cond.glareLevel := glare, cond.hotThreshold := hot })) ∧
    (∀ enable shift, s.serves q (.setDarkRefresh q enable shift) →
      exec (.setDarkRefresh q enable shift) s =
        .next (if 7 < shift ∨ 1 < enable then replied q 0xA4 .outOfRange [] (s.taken q.port)
          else replied q 0xA4 .ok [] { s.taken q.port with cal.refresh := decide (enable = 1), cal.shift := shift })) ∧
    (∀ limit, s.serves q (.setProfileLimit q limit) →
      exec (.setProfileLimit q limit) s =
        .next (if s.mode = .run then replied q 0xB4 .refusedMode [] (s.taken q.port)
          else if limit < 1 ∨ 32 < limit then replied q 0xB4 .outOfRange [] (s.taken q.port)
          else if (s.table.profiles.drop limit).any (fun p => p.mark != .none) = true then
            replied q 0xB4 .profileBusy [] (s.taken q.port)
          else replied q 0xB4 .ok [] { s.taken q.port with table.limit := limit })) ∧
    (∀ b, s.serves q (.writeBalanceSettings q b) →
      exec (.writeBalanceSettings q b) s =
        .next (if s.mode = .run then replied q 0xC2 .refusedMode [] (s.taken q.port)
          else if 1 < b.loopMode ∨ 4095 < b.target ∨ 4095 < b.kp ∨ b.slew < 1 ∨ 1023 < b.slew ∨ 4095 < b.deadband ∨
              4095 < b.mask ∨ 1 < b.autoExposure ∨ 4095 < b.margin ∨ 4095 < b.forced then
            replied q 0xC2 .outOfRange [] (s.taken q.port)
          else replied q 0xC2 .ok []
            { s.taken q.port with
              ring.balance := ⟨if b.loopMode = 0 then .loop else .manual, b.target, b.kp, b.slew, b.deadband, b.mask,
                decide (b.autoExposure = 1), b.margin, b.forced⟩ })) ∧
    (∀ total dimCount offCount threshold, s.serves q (.writeSupervisionLimits q total dimCount offCount threshold) →
      exec (.writeSupervisionLimits q total dimCount offCount threshold) s =
        .next (if s.mode = .run then replied q 0xC8 .refusedMode [] (s.taken q.port)
          else if 49140 < total ∨ dimCount < 1 ∨ 255 < dimCount ∨ 255 < offCount ∨ 4095 < threshold ∨
              offCount < dimCount then
            replied q 0xC8 .outOfRange [] (s.taken q.port)
          else replied q 0xC8 .ok (u16 total ++ u8 dimCount ++ u8 offCount ++ u16 threshold)
            { s.taken q.port with
              sup.total := total, sup.dimCount := dimCount, sup.offCount := offCount, sup.openLevel := threshold }))

/-- Write Tone Segment and Write Glare Table replace the 256 entries of one segment, entry 256·n + k becoming the k-th value,
and leave every other entry; they are refused with REFUSED_MODE in RUN, with OUT_OF_RANGE for a segment above 15 or a response
other than the four, and the tone table with TABLE_BUSY while a TONE8 entry is queued or running (R36, R37, R130). -/
def Obligations.TableSegmentsReplace : Prop :=
  ∀ (q : Req) (n : Nat) (l : List Nat) (s : State),
    (s.serves q (.writeToneSegment q n l) →
      (s.mode = .run → exec (.writeToneSegment q n l) s = .next (replied q 0x9A .refusedMode [] (s.taken q.port))) ∧
      (s.mode = .setup → 15 < n →
        exec (.writeToneSegment q n l) s = .next (replied q 0x9A .outOfRange [] (s.taken q.port))) ∧
      (s.mode = .setup → n ≤ 15 → (∃ e ∈ s.warp.queue, e.copy.format = .tone8) →
        exec (.writeToneSegment q n l) s = .next (replied q 0x9A .tableBusy [] (s.taken q.port))) ∧
      (s.mode = .setup → n ≤ 15 → (∀ e ∈ s.warp.queue, e.copy.format ≠ .tone8) → s.cond.tone.length = 4096 →
        ∃ tone, tone.length = 4096 ∧
          (∀ i, i < 4096 → tone.getD i 0 =
            if 256 * n ≤ i ∧ i < 256 * n + 256 then l.getD (i - 256 * n) 0 else s.cond.tone.getD i 0) ∧
          exec (.writeToneSegment q n l) s = .next (replied q 0x9A .ok [] { s.taken q.port with cond.tone := tone }))) ∧
    (s.serves q (.writeGlareTable q n l) →
      (s.mode = .run → exec (.writeGlareTable q n l) s = .next (replied q 0xC3 .refusedMode [] (s.taken q.port))) ∧
      (s.mode = .setup → (15 < n ∨ ∃ g ∈ l, 3 < g) →
        exec (.writeGlareTable q n l) s = .next (replied q 0xC3 .outOfRange [] (s.taken q.port))) ∧
      (s.mode = .setup → n ≤ 15 → (∀ g ∈ l, g ≤ 3) → s.ring.glare.length = 4096 →
        ∃ glare, glare.length = 4096 ∧
          (∀ i, i < 4096 → (glare.getD i .normal).code =
            if 256 * n ≤ i ∧ i < 256 * n + 256 then l.getD (i - 256 * n) 0 else (s.ring.glare.getD i .normal).code) ∧
          exec (.writeGlareTable q n l) s = .next (replied q 0xC3 .ok [] { s.taken q.port with ring.glare := glare })))

/-- Read Map Region is refused with OUT_OF_RANGE for another map code or an invalid region; else the reply carries the
map, the region and its entries of the working map in row order, as they stand when the request is taken; it changes
nothing, and leaves the map links (R41, R42). Read Map Region Linked answers with the entries exactly as the plain
read gives them, and in the same event sets the requesting port's link to the map and region in place of any it held;
refused, it leaves the link; the other port's link is not touched, nor is anything else (R41 to R43). That its reply carries the
map and the region before the entries, as the plain one does, is the model's choice (log 18). -/
def Obligations.MapRegionReads : Prop :=
  (∀ (q : Req) (a : RegionArg) (s : State), s.serves q (.readMapRegion q a) →
     let span := if a.map = 0 then 32 else 33
     let map := if a.map = 0 then s.cal.dark else s.cal.gain
     exec (.readMapRegion q a) s =
       .next (if a.map ≤ 1 ∧ 1 ≤ a.w ∧ 1 ≤ a.h ∧ a.x0 + a.w ≤ span ∧ a.y0 + a.h ≤ span ∧ a.w * a.h ≤ 256 then
           replied q 0xA0 .ok
             (u8 a.map ++ u8 a.x0 ++ u8 a.y0 ++ u8 a.w ++ u8 a.h ++
               ((List.range a.h).flatMap fun j => (List.range a.w).flatMap fun i =>
                 u16 (map.getD (span * (a.y0 + j) + (a.x0 + i)) 0)))
             (s.taken q.port)
         else replied q 0xA0 .outOfRange [] (s.taken q.port))) ∧
  (∀ (q : Req) (a : RegionArg) (s : State), s.serves q (.readMapRegionLinked q a) →
     let span := if a.map = 0 then 32 else 33
     let map := if a.map = 0 then s.cal.dark else s.cal.gain
     let link : MapLink := ⟨if a.map = 0 then .dark else .gain, a.x0, a.y0, a.w, a.h⟩
     exec (.readMapRegionLinked q a) s =
       .next (if a.map ≤ 1 ∧ 1 ≤ a.w ∧ 1 ≤ a.h ∧ a.x0 + a.w ≤ span ∧ a.y0 + a.h ≤ span ∧ a.w * a.h ≤ 256 then
           replied q 0xA1 .ok
             (u8 a.map ++ u8 a.x0 ++ u8 a.y0 ++ u8 a.w ++ u8 a.h ++
               ((List.range a.h).flatMap fun j => (List.range a.w).flatMap fun i =>
                 u16 (map.getD (span * (a.y0 + j) + (a.x0 + i)) 0)))
             (match q.port with
               | .tether => { s.taken .tether with linkTether := some link }
               | .service => { s.taken .service with linkService := some link })
         else replied q 0xA1 .outOfRange [] (s.taken q.port)))

/-- Write Map Region, refused in RUN and for an invalid region, writes its entries, saturated at 1023 in the dark map and 4095
in the gain map, into the working map and at once into the in-use copy, leaves every other entry, breaks exactly the links
whose region on the same map shares an entry with it, and answers how many entries were saturated (R28, R41, R45, R46). -/
def Obligations.WriteMapRegionWrites : Prop :=
  ∀ (q : Req) (a : RegionArg) (l : List Nat) (s : State), s.serves q (.writeMapRegion q a l) →
    let span := if a.map = 0 then 32 else 33
    let top := if a.map = 0 then 1023 else 4095
    let inside := fun (i j : Nat) => a.x0 ≤ i ∧ i < a.x0 + a.w ∧ a.y0 ≤ j ∧ j < a.y0 + a.h
    let valid := a.map ≤ 1 ∧ 1 ≤ a.w ∧ 1 ≤ a.h ∧ a.x0 + a.w ≤ span ∧ a.y0 + a.h ≤ span ∧ a.w * a.h ≤ 256
    (s.mode = .run → exec (.writeMapRegion q a l) s = .next (replied q 0xA2 .refusedMode [] (s.taken q.port))) ∧
    (s.mode = .setup → ¬ valid →
      exec (.writeMapRegion q a l) s = .next (replied q 0xA2 .outOfRange [] (s.taken q.port))) ∧
    (s.mode = .setup → valid → s.cal.dark.length = 1024 → s.cal.gain.length = 1089 →
      ∃ map x y, map.length = span * span ∧
        (∀ i j, i < span → j < span →
          (inside i j → map.getD (span * j + i) 0 = min top (l.getD (a.w * (j - a.y0) + (i - a.x0)) 0)) ∧
          (¬ inside i j → map.getD (span * j + i) 0 = (if a.map = 0 then s.cal.dark else s.cal.gain).getD (span * j + i) 0)) ∧
        (∀ link, s.linkTether = some link → link.w ≠ 0 → link.h ≠ 0 →
          (x = none ∨ x = some link) ∧
          (x = none ↔ link.map.code = a.map ∧ ∃ i j, inside i j ∧ link.x0 ≤ i ∧ i < link.x0 + link.w ∧
            link.y0 ≤ j ∧ j < link.y0 + link.h)) ∧
        (s.linkTether = none → x = none) ∧
        (∀ link, s.linkService = some link → link.w ≠ 0 → link.h ≠ 0 →
          (y = none ∨ y = some link) ∧
          (y = none ↔ link.map.code = a.map ∧ ∃ i j, inside i j ∧ link.x0 ≤ i ∧ i < link.x0 + link.w ∧
            link.y0 ≤ j ∧ j < link.y0 + link.h)) ∧
        (s.linkService = none → y = none) ∧
        exec (.writeMapRegion q a l) s =
          .next (replied q 0xA2 .ok (u16 (l.filter (top < ·)).length)
            (if a.map = 0 then
              { s.taken q.port with cal.dark := map, cond.dark := map, linkTether := x, linkService := y }
            else { s.taken q.port with cal.gain := map, cond.gain := map, linkTether := x, linkService := y })))

/-- Write Map Region Conditional is refused with OUT_OF_RANGE for an invalid region and answered LINK_BROKEN without a link of
the requesting port to the same map and region; either way nothing is written and that link is absent; with the link it
writes as Write Map Region does, in RUN leaving the in-use copy and marking the change, and that link is absent as well (R28,
R40, R45, R47). -/
def Obligations.ConditionalWriteNeedsLink : Prop :=
  ∀ (q : Req) (a : RegionArg) (l : List Nat) (s : State), s.serves q (.writeMapRegionConditional q a l) →
    let span := if a.map = 0 then 32 else 33
    let valid := a.map ≤ 1 ∧ 1 ≤ a.w ∧ 1 ≤ a.h ∧ a.x0 + a.w ≤ span ∧ a.y0 + a.h ≤ span ∧ a.w * a.h ≤ 256
    let link : MapLink := ⟨if a.map = 0 then .dark else .gain, a.x0, a.y0, a.w, a.h⟩
    (¬ valid → exec (.writeMapRegionConditional q a l) s =
      .next (replied q 0xA3 .outOfRange [] ((s.taken q.port).setMapLink q.port none))) ∧
    (valid → s.mapLink q.port ≠ some link → exec (.writeMapRegionConditional q a l) s =
      .next (replied q 0xA3 .linkBroken [] ((s.taken q.port).setMapLink q.port none))) ∧
    (valid → s.mapLink q.port = some link →
      ∃ t, exec (.writeMapRegionConditional q a l) s =
          .next (replied q 0xA3 .ok (u16 (l.filter ((if a.map = 0 then 1023 else 4095) < ·)).length) t) ∧
        t.mapLink q.port = none ∧
        t.mapLink q.port.other = (s.mapLink q.port.other).filter (fun x => !x.overlaps link) ∧
        (∀ k, k < a.w * a.h →
          k < l.length → (link.indices.getD k 0) < (s.workingMap link.map).length →
          (t.workingMap link.map).getD (link.indices.getD k 0) 0 = min link.map.top (l.getD k 0)) ∧
        (∀ n, n ∉ link.indices → (t.workingMap link.map).getD n 0 = (s.workingMap link.map).getD n 0) ∧
        (s.mode = .run → t.cond = { s.cond with changed := true }) ∧
        (s.mode = .setup → t.cond.changed = s.cond.changed ∧
          (a.map = 0 → t.cond.dark = t.cal.dark ∧ t.cond.gain = s.cond.gain) ∧
          (a.map = 1 → t.cond.gain = t.cal.gain ∧ t.cond.dark = s.cond.dark)) ∧
        t.cal.acq = s.cal.acq ∧ t.ring = s.ring ∧ t.faults = s.faults ∧ t.slots = s.slots ∧ t.mode = s.mode)

/-- Start Dark and Start Flat-Field Acquisition are refused with REFUSED_MODE outside RUN, OP_IN_PROGRESS while one is in
flight, OUT_OF_RANGE for a frame count other than 1, 2, 4, 8, 16, 32 and 64 or a target outside 1 to 4095, and the flat field
with HEAD_CONDITION while the ring is not LIT; else the counter rises, wrapping at 255, and the context is present, ACCEPTED,
the flat field holding the balance loop. Abort ends one with its notice, which stands behind the reply
(log 13), or is answered NO_OPERATION (R51 to R53, R59). -/
def Obligations.AcquisitionsStartAndAbort : Prop :=
  ∀ (q : Req) (s : State),
    (∀ n, s.serves q (.startDarkAcquisition q n) →
      exec (.startDarkAcquisition q n) s =
        .next (if s.mode ≠ .run then replied q 0xA5 .refusedMode [] (s.taken q.port)
          else if s.cal.acq.isSome = true then replied q 0xA5 .opInProgress [] (s.taken q.port)
          else if n ∉ [1, 2, 4, 8, 16, 32, 64] then replied q 0xA5 .outOfRange [] (s.taken q.port)
          else replied q 0xA5 .accepted []
            { s.taken q.port with
              cal.counter := (s.cal.counter + 1) % 256
              cal.acq := some ⟨.dark, n, 0, (s.cal.counter + 1) % 256, 0, List.replicate 1024 0⟩ })) ∧
    (∀ n target, s.serves q (.startFlatFieldAcquisition q n target) →
      exec (.startFlatFieldAcquisition q n target) s =
        .next (if s.mode ≠ .run then replied q 0xA6 .refusedMode [] (s.taken q.port)
          else if s.cal.acq.isSome = true then replied q 0xA6 .opInProgress [] (s.taken q.port)
          else if n ∉ [1, 2, 4, 8, 16, 32, 64] ∨ target < 1 ∨ 4095 < target then
            replied q 0xA6 .outOfRange [] (s.taken q.port)
          else if s.ring.state ≠ .lit then replied q 0xA6 .headCondition [] (s.taken q.port)
          else replied q 0xA6 .accepted []
            { s.taken q.port with
              cal.counter := (s.cal.counter + 1) % 256
              cal.acq := some ⟨.flat, n, 0, (s.cal.counter + 1) % 256, target, List.replicate 1024 0⟩
              ring.flatHold := true })) ∧
    (s.serves q (.abortAcquisition q) →
      (s.cal.acq = none →
        exec (.abortAcquisition q) s = .next (replied q 0xA7 .noOperation [] (s.taken q.port))) ∧
      (∀ a, s.cal.acq = some a →
        let u := replied q 0xA7 .ok [] (s.taken q.port)
        exec (.abortAcquisition q) s =
          .next { u with
            cal.acq := none
            ring.flatHold := false
            tether := u.tether.pushNotice ⟨0xF3, 0, u8 a.kind.code ++ u8 1 ++ u8 a.taken⟩ }))

/-! ### Chapters 4 to 6 -/

/-- Write Profile is refused with BAD_SELECTOR for selector 0 or one at or above the limit, then with REFUSED_PRIVILEGE from
the tether when the profile is PROTECTED or the record makes it so, then with PROFILE_BUSY for a marked profile, then with
OUT_OF_RANGE for a field outside Table 4-1; else the descriptor is replaced, the field of the other kind stored as 0, with
present = no by the reset values with the record's level, and the record's mark ignored. Read Profile, below the limit,
answers with the descriptor's fields as they stand, the one that does not belong to the kind marked absent, and changes nothing
(R64 to R67). OUT_OF_RANGE for a present or level code outside its
values, even with present = no, is the model's deduction (log 20), and the bytes of Read Profile, an absent part for selector 0
among them, are log 18's. -/
def Obligations.ProfilesWriteAndRead : Prop :=
  ∀ (q : Req) (n : Nat) (s : State),
    (∀ d : ProfileArg, s.serves q (.writeProfile q n d) →
      let refused := fun c => exec (.writeProfile q n d) s = .next (replied q 0xB0 c [] (s.taken q.port))
      let wrote := fun p : Profile => exec (.writeProfile q n d) s =
        .next (replied q 0xB0 .ok [] { s.taken q.port with table.profiles := s.table.profiles.set n p })
      let inRange := d.kind ≤ 1 ∧ d.format ≤ 1 ∧ 1 ≤ d.width ∧ d.width ≤ 64 ∧ 1 ≤ d.height ∧ d.height ≤ 32 ∧
        d.width * d.height ≤ 1024 ∧
        (d.kind = 0 → -4096 ≤ d.ocx ∧ d.ocx ≤ 4095 ∧ -4096 ≤ d.ocy ∧ d.ocy ≤ 4095) ∧
        (d.kind = 1 → d.startAngle ≤ 4095) ∧ d.radius ≤ 1023 ∧ d.table ≤ 7 ∧ 1 ≤ d.step ∧ d.step ≤ 64 ∧ d.fill ≤ 4095
      (n = 0 ∨ s.table.limit ≤ n → refused .badSelector) ∧
      (n ≠ 0 → n < s.table.limit →
        q.port = .tether ∧ ((s.profile n).level = .protectedLevel ∨ d.level = 1) → refused .refusedPrivilege) ∧
      (n ≠ 0 → n < s.table.limit →
        q.port = .service ∨ ((s.profile n).level = .openLevel ∧ d.level ≠ 1) →
        ((s.profile n).mark ≠ .none → refused .profileBusy) ∧
        ((s.profile n).mark = .none →
          (1 < d.present ∨ 1 < d.level ∨ (d.present = 1 ∧ ¬ inRange) → refused .outOfRange) ∧
          (d.present = 0 → d.level ≤ 1 →
            wrote { Profile.atReset with level := if d.level = 0 then .openLevel else .protectedLevel }) ∧
          (d.present = 1 → d.level ≤ 1 → inRange →
            wrote ⟨true, if d.kind = 0 then .radial else .unroll, if d.level = 0 then .openLevel else .protectedLevel,
              d.width, d.height, if d.kind = 0 then d.ocx else 0, if d.kind = 0 then d.ocy else 0,
              if d.kind = 0 then 0 else d.startAngle, d.scx, d.scy, d.radius, d.table, d.step, d.fill,
              if d.format = 0 then .wide12 else .tone8, .none⟩)))) ∧
    (s.serves q (.readProfile q n) →
      exec (.readProfile q n) s =
        .next (if s.table.limit ≤ n then replied q 0xB1 .badSelector [] (s.taken q.port)
          else if n = 0 then replied q 0xB1 .ok (u8 0) (s.taken q.port)
          else
            let p := s.profile n
            replied q 0xB1 .ok
              (u8 1 ++ flag p.present ++ u8 p.kind.code ++ u8 p.level.code ++ u8 p.width ++ u8 p.height ++
                (if p.kind = .radial then u8 1 ++ i16 p.ocx ++ i16 p.ocy else u8 0) ++
                (if p.kind = .radial then u8 0 else u8 1 ++ u16 p.startAngle) ++
                i16 p.scx ++ i16 p.scy ++ u16 p.radius ++ u8 p.table ++ u8 p.step ++ u16 p.fill ++ u8 p.format.code ++
                u8 p.mark.code)
              (s.taken q.port)))

/-- Write Radial Table is refused with OUT_OF_RANGE for a table above 7, then with REFUSED_PRIVILEGE from the tether for
tables 0 to 3, then with TABLE_BUSY for a held table, then with OUT_OF_RANGE for an entry above 32767; else all 65
entries are replaced, in any order, and nothing else changes (R65 (2), R70). Read Radial Table, from either port and
in SETUP and RUN, is refused with OUT_OF_RANGE for a table above 7 and else answers with the 65 entries as they stand
and the table's hold count; it changes nothing (R71). -/
def Obligations.RadialTablesWriteAndRead : Prop :=
  (∀ (q : Req) (n : Nat) (l : List Nat) (s : State), s.serves q (.writeRadialTable q n l) →
     (7 < n → exec (.writeRadialTable q n l) s = .next (replied q 0xB2 .outOfRange [] (s.taken q.port))) ∧
     (q.port = .tether → n ≤ 3 →
       exec (.writeRadialTable q n l) s = .next (replied q 0xB2 .refusedPrivilege [] (s.taken q.port))) ∧
     (n ≤ 7 → q.port = .service ∨ 4 ≤ n →
       (s.hold n ≠ 0 → exec (.writeRadialTable q n l) s = .next (replied q 0xB2 .tableBusy [] (s.taken q.port))) ∧
       (s.hold n = 0 → (∃ e ∈ l, 32767 < e) →
         exec (.writeRadialTable q n l) s = .next (replied q 0xB2 .outOfRange [] (s.taken q.port))) ∧
       (s.hold n = 0 → (∀ e ∈ l, e ≤ 32767) →
         exec (.writeRadialTable q n l) s =
           .next (replied q 0xB2 .ok [] { s.taken q.port with table.radial := s.table.radial.set n l })))) ∧
  (∀ (q : Req) (n : Nat) (s : State), s.serves q (.readRadialTable q n) →
     exec (.readRadialTable q n) s =
       .next (if 7 < n then replied q 0xB3 .outOfRange [] (s.taken q.port)
         else replied q 0xB3 .ok ((s.table.radial.getD n []).flatMap u16 ++ u8 (s.table.holds.getD n 0)) (s.taken q.port)))

/-- Bind View answers by the first check that decides: OUT_OF_RANGE for another slot, BAD_SELECTOR, NOT_PRESENT, WRONG_KIND for
an UNROLL profile at slot A, PROFILE_BUSY for a profile of the other slot, all changing nothing; OK for the active selector,
withdrawing a pending UNBIND, and cancelling a pending PROFILE, whose mark is released and whose build is abandoned; OK for the
pending selector, changing nothing; the reply carries the slot as it then stands (R74, R88), but for another slot (log 42), in
log 18's layout: 00 hex, 01 hex and the selector, or 02 hex for the pending change. -/
def Obligations.BindViewDecides : Prop :=
  ∀ (q : Req) (slot n : Nat) (s : State), s.serves q (.bindView q slot n) →
    let answers := fun (v : View) c (t : State) => exec (.bindView q slot n) s =
      .next (replied q 0xB5 c (u8 v.code ++ u8 (t.view v).active ++ (match (t.view v).pending with
        | .absent => u8 0
        | .profile m _ => u8 1 ++ u8 m
        | .unbind => u8 2)) t)
    (1 < slot → exec (.bindView q slot n) s = .next (replied q 0xB5 .outOfRange [] (s.taken q.port))) ∧
    (∀ v : View, v.code = slot →
      (s.table.limit ≤ n → answers v .badSelector (s.taken q.port)) ∧
      (n < s.table.limit → n ≠ 0 →
        ((s.profile n).present = false → answers v .notPresent (s.taken q.port)) ∧
        ((s.profile n).present = true → v = .a → (s.profile n).kind = .unroll →
          answers v .wrongKind (s.taken q.port)) ∧
        ((s.profile n).present = true → (v = .b ∨ (s.profile n).kind = .radial) →
          ((v = .a ∧ (s.profile n).mark ∈ [.bActive, .bPending] ∨ v = .b ∧ (s.profile n).mark ∈ [.aActive, .aPending]) →
            answers v .profileBusy (s.taken q.port)) ∧
          (¬ (v = .a ∧ (s.profile n).mark ∈ [.bActive, .bPending] ∨
              v = .b ∧ (s.profile n).mark ∈ [.aActive, .aPending]) →
            (n = (s.view v).active → (s.view v).pending = .absent → answers v .ok (s.taken q.port)) ∧
            (n = (s.view v).active → (s.view v).pending = .unbind →
              answers v .ok ((s.taken q.port).setView v { s.view v with pending := .absent })) ∧
            (∀ m b, s.viewsWell → n = (s.view v).active → (s.view v).pending = .profile m b →
              ∃ t, profileWithdrawn v m (s.taken q.port) t ∧ answers v .ok t) ∧
            (∀ b, n ≠ (s.view v).active → (s.view v).pending = .profile n b → answers v .ok (s.taken q.port))))))

/-- A Bind View that makes a new pending change: an earlier pending PROFILE is cancelled, its mark released and its build
abandoned, and an earlier UNBIND is replaced; the profile is marked pending for the slot, its radial table takes a hold, and
its build starts in the lowest FREE buffer or waits for one; ACCEPTED; the active view stays (R73, R75, R85, R88). Bind View
with selector 0: a pending PROFILE is cancelled so; a null slot then stays as it is; in RUN another slot gets the pending
change UNBIND; in SETUP it becomes null at once, its profile's mark NONE with the table's hold, its ACTIVE buffer FREE without
a use and RETIRING with one, and VIEW READY with selector 0 is queued behind the reply (log 13); OK in every case (R73, R76,
R79, R88, R89). The pending change in the reply stands in log 18's layout. -/
def Obligations.BindViewChangesSlot : Prop :=
  (∀ (q : Req) (v : View) (n : Nat) (s : State), s.serves q (.bindView q v.code n) → s.viewsWell →
     n ≠ 0 → n < s.table.limit → (s.profile n).present = true → (v = .b ∨ (s.profile n).kind = .radial) →
     (v = .a → (s.profile n).mark ∉ [.bActive, .bPending]) → (v = .b → (s.profile n).mark ∉ [.aActive, .aPending]) →
     n ≠ (s.view v).active → (∀ b, (s.view v).pending ≠ .profile n b) →
     ∃ u t, withoutProfile v (s.taken q.port) u ∧ profileBecomesPending v n u t ∧
       exec (.bindView q v.code n) s =
         .next (replied q 0xB5 .accepted (u8 v.code ++ u8 (s.view v).active ++ (u8 1 ++ u8 n)) t)) ∧
  (∀ (q : Req) (v : View) (s : State), s.serves q (.bindView q v.code 0) → s.viewsWell →
     ∃ u, withoutProfile v (s.taken q.port) u ∧
       ((s.view v).active = 0 →
         exec (.bindView q v.code 0) s = .next (replied q 0xB5 .ok (u8 v.code ++ u8 0 ++ u8 0) u)) ∧
       ((s.view v).active ≠ 0 → s.mode = .run →
         exec (.bindView q v.code 0) s =
           .next (replied q 0xB5 .ok (u8 v.code ++ u8 (s.view v).active ++ u8 2)
             (u.setView v { u.view v with pending := .unbind }))) ∧
       ((s.view v).active ≠ 0 → s.mode = .setup →
         ∃ t, slotBecomesNull v (replied q 0xB5 .ok (u8 v.code ++ u8 0 ++ u8 0) u) t ∧ exec (.bindView q v.code 0) s = .next t))

/-- A build that completes, in either buffer, fills it with the profile's mesh; in RUN buffer and pending build are READY; in
SETUP the mesh is adopted in the same event, the outgoing buffer retired and VIEW READY queued (R77 to R79, R87, R89). Without a
build in progress the event cannot occur and changes nothing (the model's choice, log 3). A mesh of w by h tiles has (2w + 1)·(2h
+ 1) nodes in row order, node (nx, ny) belonging to the output point (16·nx, 16·ny) (R82). A node's radial argument ρ is the
integer square root of 256·(dx² + dy²), or 16·y for UNROLL (R91); its source radius Rs comes from the table by R92, and beyond
the table's end the node is invalid, at the source centre; a RADIAL node lies off the source centre by Rs·16·dx / ρ and Rs·16·dy
/ ρ, at the centre for ρ = 0 (R93); an UNROLL node by Rs·C(a) / 16384 and Rs·S(a) / 16384 at the angle code a of its column
(R94), with C and S formed from the quarter-wave table (R95); each rounded halves away from zero and saturated to its field. -/
def Obligations.BuildsFillMeshes : Prop :=
  (∀ (v : View) (s : State),
     ((∀ n, (s.view v).pending ≠ .profile n .building) → exec (.buildCompletion v) s = .next s) ∧
     (∀ n b, (s.view v).pending = .profile n .building → b < 2 → ((s.view v).buffer b).state = .building →
       ((s.view v).buffer (1 - b)).state ≠ .building →
       let u := s.setView v ({ s.view v with pending := .profile n .ready }.setBuffer b { (s.view v).buffer b with
         state := .ready, nodes := buildMesh (s.profile n) (s.table.radial.getD (s.profile n).table []) })
       (s.mode = .run → exec (.buildCompletion v) s = .next u) ∧
       (s.mode ≠ .run → s.viewsWell → ∃ t, exec (.buildCompletion v) s = .next t ∧ slotAdopts v n b u t))) ∧
  (∀ (p : Profile) (table : List Nat),
     (buildMesh p table).length = (2 * p.width + 1) * (2 * p.height + 1) ∧
     (∀ nx ny, nx < 2 * p.width + 1 → ny < 2 * p.height + 1 →
       (buildMesh p table)[ny * (2 * p.width + 1) + nx]? = some (meshNode p table (16 * nx) (16 * ny)))) ∧
  (∀ (p : Profile) (table : List Nat) (x y rho : Nat), 1 ≤ p.step → 1 ≤ p.width → x ≤ 2048 → y ≤ 1024 →
     -4096 ≤ p.ocx → p.ocx ≤ 4095 → -4096 ≤ p.ocy → p.ocy ≤ 4095 →
     let dx : Int := x - p.ocx
     let dy : Int := y - p.ocy
     (p.kind = .radial → ((rho ^ 2 : Nat) : Int) ≤ 256 * (dx ^ 2 + dy ^ 2) ∧
       256 * (dx ^ 2 + dy ^ 2) < (((rho + 1) ^ 2 : Nat) : Int)) →
     (p.kind = .unroll → rho = 16 * y) →
     let s16 := 16 * p.step
     let k := rho / s16
     let f := rho % s16
     let entry := fun j : Nat => ((table.getD j 0 : Nat) : Int)
     let quotient := fun (a : Int) (b : Nat) =>
       if a < 0 then -(((2 * a.natAbs + b) / (2 * b) : Nat) : Int) else (((2 * a.natAbs + b) / (2 * b) : Nat) : Int)
     let field := fun a : Int => max (-32768) (min 32767 a)
     (63 < k ∧ ¬ (k = 64 ∧ f = 0) → meshNode p table x y = ⟨p.scx, p.scy, false⟩) ∧
     (∀ rs : Int, (k ≤ 63 → rs = entry k + ((entry (k + 1) - entry k) * f + 8 * p.step) / s16) →
       (63 < k → rs = entry 64) → k ≤ 63 ∨ k = 64 ∧ f = 0 →
       (p.kind = .radial → rho = 0 → meshNode p table x y = ⟨p.scx, p.scy, true⟩) ∧
       (p.kind = .radial → rho ≠ 0 → meshNode p table x y =
         ⟨field (p.scx + quotient (rs * 16 * dx) rho), field (p.scy + quotient (rs * 16 * dy) rho), true⟩) ∧
       (∀ a, p.kind = .unroll →
         a = (p.startAngle + (x * 4096 + 32 * p.width / 2) / (32 * p.width)) % 4096 →
         let sin := fun a : Nat =>
           if a < 1024 then quarter a
           else if a < 2048 then quarter (2048 - a)
           else if a < 3072 then -quarter (a - 2048) else -quarter (4096 - a)
         meshNode p table x y =
           ⟨field (p.scx + quotient (rs * sin ((a + 1024) % 4096)) 16384),
            field (p.scy + quotient (rs * sin a) 16384), true⟩)))

/-- Review Frame is refused with OUT_OF_RANGE for another slot or a tag above 4095, then with NO_FRAME when no held slot
is pinned with the tag, then, for a null slot, with VIEW_NOT_READY under a pending PROFILE and NULL_VIEW without, then
with QUEUE_FULL while two reviews are queued; nothing changes (R99). A Review Frame that passes its checks appends a
review entry of the first pinned slot with the tag, with the view's ACTIVE buffer, selector, profile copy and the
slot's frame record, adds one to the slot's outstanding count and to the buffer's uses, and is ACCEPTED with the slot
and the selector; an engine that is idle over an empty queue starts it in the same event, its FRAME BEGIN, with the skip count
that becomes 0, following the reply (log 13), waiting for a place, or discarded while the link is not UP, where a review is not
counted as skipped (R15, R99, R100, R101, R111). -/
def Obligations.ReviewFrameReviews : Prop :=
  (∀ (q : Req) (tag slot : Nat) (s : State), s.serves q (.reviewFrame q tag slot) →
     let refused := fun c => exec (.reviewFrame q tag slot) s = .next (replied q 0xB8 c [] (s.taken q.port))
     (1 < slot ∨ 4095 < tag → refused .outOfRange) ∧
     (∀ v : View, v.code = slot → tag ≤ 4095 →
       ((∀ n ∈ s.held, (s.slot n).tag = tag → (s.slot n).pinned = false) → refused .noFrame) ∧
       ((∃ n ∈ s.held, (s.slot n).tag = tag ∧ (s.slot n).pinned = true) →
         ((s.view v).active = 0 → (∃ n b, (s.view v).pending = .profile n b) → refused .viewNotReady) ∧
         ((s.view v).active = 0 → (∀ n b, (s.view v).pending ≠ .profile n b) → refused .nullView) ∧
         ((s.view v).active ≠ 0 → 2 ≤ (s.warp.queue.filter (·.purpose == .review)).length → refused .queueFull)))) ∧
  (∀ (q : Req) (tag : Nat) (v : View) (before after : List Nat) (n b : Nat) (s : State),
     s.serves q (.reviewFrame q tag v.code) → tag ≤ 4095 → s.held = before ++ n :: after →
     (∀ m ∈ before, (s.slot m).tag = tag → (s.slot m).pinned = false) → (s.slot n).tag = tag → (s.slot n).pinned = true →
     (s.view v).active ≠ 0 → (s.view v).activeBuffer = some b → (s.warp.queue.filter (·.purpose == .review)).length < 2 →
     (s.warp.engine = .running ∧ (s.warp.waiting = .nothing ∨ 16 ≤ s.tether.images.length)) ∨
       (s.warp.engine = .closing ∧ s.warp.discarding = false ∧ 16 ≤ s.tether.images.length) ∨
       (s.warp.engine = .idle ∧ s.warp.queue = []) →
     let u := replied q 0xB8 .accepted (u8 n ++ u8 (s.view v).active) (s.taken q.port)
     let e : WarpEntry := ⟨.review, n, tag, v, b, (s.view v).active, (s.profile (s.view v).active).copy, (s.slot n).record⟩
     ∃ t, exec (.reviewFrame q tag v.code) s = .next t ∧ t.service = u.service ∧
       (s.warp.engine ≠ .idle →
         t.warp = { s.warp with queue := s.warp.queue ++ [e] } ∧ t.tether = u.tether ∧ t.capture = s.capture) ∧
       (s.warp.engine = .idle →
         t.warp.queue = [e] ∧ t.warp.engine = .running ∧ t.warp.next = 0 ∧ t.warp.placed = 0 ∧
         (t.warp.discarding = true ↔ s.tether.link ≠ .up) ∧
         (s.tether.link ≠ .up → t.warp.waiting = .nothing ∧ t.tether = u.tether ∧ t.capture = s.capture) ∧
         (s.tether.link = .up → s.tether.images.length < 16 →
           t.warp.waiting = .nothing ∧ t.tether = u.tether.pushImage (frameBeginRecord e (s.skip v)) ∧
           ∀ w, t.skip w = if w = v then 0 else s.skip w) ∧
         (s.tether.link = .up → 16 ≤ s.tether.images.length →
           t.warp.waiting = .frameBegin ∧ t.tether = u.tether ∧ t.capture = s.capture)) ∧
       t.slots = (s.slots.modify n fun x => { x with count := x.count + 1 }) ∧ t.held = s.held ∧
       ((t.view v).buffer b).uses = ((s.view v).buffer b).uses + 1 ∧ (∀ w, w ≠ v → t.view w = s.view w) ∧
       t.table = s.table ∧ t.faults = s.faults ∧ t.mode = s.mode)

/-- A completed tile becomes a TILE record of the view, tag, tile column and row and its 1024 values (R102, R108): with a place
free in the image queue it is placed, or it waits with the warp (R110); a discarding warp goes on without it (R111). Then the
next tile begins, or after the last one the entry ends: it leaves the queue, its slot's count and its buffer's use fall by one,
and its FRAME END, COMPLETE with the tiles placed, is placed as a place is free, or owed, or discarded; the engine is then idle,
or begins the next entry with its FRAME BEGIN, or, after a discarding warp with the link not UP, discarding, a LIVE entry's frame
counted as skipped (R8, R15 (4), R89, R101, R103, R104). The 1024 values are the levels themselves in WIDE12, two of them in three
bytes, and the tone table's entries at the levels in TONE8, one byte each (R108, Table 10-1), and the mesh is that of the entry's
buffer (R105). With no warp running, or a record waiting, no tile
completes (log 3). No uncorrectable word here. A tile that reads uncorrectable words raises FRAME_STORE_ECC once for each
reading of one, reads their pixels as 0, and is marked CORRUPT (R20, R102, R109; log 12); the image queue is full there, so that
the record is seen waiting. -/
def Obligations.WarpTilesComplete : Prop :=
  (∀ s : State,
     (s.warp.engine ≠ .running ∨ s.warp.waiting ≠ .nothing ∨ s.warp.queue = [] →
       exec (.warpTileComplete []) s = .next s) ∧
     (∀ e rest, s.warp.engine = .running → s.warp.waiting = .nothing → s.warp.queue = e :: rest → s.badWords = [] →
       let c := s.warp.next % e.copy.width
       let r := s.warp.next / e.copy.width
       let values := (List.range 32).flatMap fun j => (List.range 32).map fun i =>
         s.sentValue e.copy.format (s.levelAt e (s.entryMesh e) (32 * c + i) (32 * r + j)).1
       let tile : Record := ⟨0xE1, 0, u8 e.view.code ++ u16 e.tag ++ u8 c ++ u8 r ++ u8 0 ++ packPixels e.copy.format values⟩
       let last : Record := ⟨0xE2, 0, u8 e.view.code ++ u16 e.tag ++ u8 0 ++ u16 (s.warp.placed + 1)⟩
       (s.warp.discarding = false → 16 ≤ s.tether.images.length →
         exec (.warpTileComplete []) s = .next { s with warp.corrupt := false, warp.waiting := .tile tile }) ∧
       (s.warp.next + 1 < e.copy.width * e.copy.height →
         (s.warp.discarding = false → s.tether.images.length < 16 →
           exec (.warpTileComplete []) s = .next { s with
             tether := s.tether.pushImage tile
             warp.next := s.warp.next + 1, warp.placed := s.warp.placed + 1, warp.corrupt := false }) ∧
         (s.warp.discarding = true →
           exec (.warpTileComplete []) s = .next { s with warp.next := s.warp.next + 1, warp.corrupt := false })) ∧
       (e.copy.width * e.copy.height ≤ s.warp.next + 1 →
         (s.warp.discarding = false → s.tether.images.length < 15 → rest = [] →
           exec (.warpTileComplete []) s = .next { s.entryEnded e with
             tether := (s.tether.pushImage tile).pushImage last
             warp := ⟨[], .idle, .nothing, s.warp.next, s.warp.placed + 1, false, false, none⟩ }) ∧
         (∀ e2 l, s.warp.discarding = false → s.tether.images.length < 14 → s.tether.link = .up → rest = e2 :: l →
           exec (.warpTileComplete []) s = .next ({ s.entryEnded e with
             tether := ((s.tether.pushImage tile).pushImage last).pushImage (frameBeginRecord e2 (s.skip e2.view))
             warp := ⟨e2 :: l, .running, .nothing, 0, 0, false, false, none⟩ }.setSkip e2.view 0)) ∧
         (s.warp.discarding = false → s.tether.images.length = 15 → s.tether.sending ≠ none →
           exec (.warpTileComplete []) s = .next { s.entryEnded e with
             tether := s.tether.pushImage tile
             warp := ⟨rest, .closing, .nothing, s.warp.next, s.warp.placed + 1, false, false,
               some ⟨e.view, e.tag, true, s.warp.placed + 1⟩⟩ }) ∧
         (s.warp.discarding = true → rest = [] →
           exec (.warpTileComplete []) s = .next { s.entryEnded e with
             warp := ⟨[], .idle, .nothing, s.warp.next, s.warp.placed, false, true, none⟩ }) ∧
         (∀ e2 l, s.warp.discarding = true → rest = e2 :: l →
           (s.tether.link ≠ .up →
             exec (.warpTileComplete []) s = .next ({ s.entryEnded e with
               warp := ⟨e2 :: l, .running, .nothing, 0, 0, false, true, none⟩ }.skipCounted e2)) ∧
           (s.tether.link = .up → s.tether.images.length < 16 →
             exec (.warpTileComplete []) s = .next ({ s.entryEnded e with
               tether := s.tether.pushImage (frameBeginRecord e2 (s.skip e2.view))
               warp := ⟨e2 :: l, .running, .nothing, 0, 0, false, false, none⟩ }.setSkip e2.view 0)))))) ∧
  (∀ (s : State) (e : WarpEntry) (l : List Nat) (level skip : Nat),
     frameBeginRecord e skip = ⟨0xE0, 0, u8 e.view.code ++ u8 e.purpose.code ++ u16 e.tag ++ u8 e.selector ++
       u8 e.copy.width ++ u8 e.copy.height ++ u8 e.copy.format.code ++ u8 e.record.index ++ u16 skip ++
       u8 e.record.trip.code ++ u8 e.record.ring.code⟩ ∧
     s.entryMesh e = ⟨((s.view e.view).buffer e.buffer).nodes, 2 * e.copy.width + 1⟩ ∧
     s.sentValue .wide12 level = level ∧ s.sentValue .tone8 level = s.cond.tone.getD level 0 ∧
     (l.length = 1024 → (packPixels .tone8 l).length = 1024 ∧ (packPixels .wide12 l).length = 1536) ∧
     (l.length = 1024 → (∀ v ∈ l, v ≤ 255) → ∀ n, n < 1024 → ((packPixels .tone8 l).getD n 0).toNat = l.getD n 0) ∧
     (l.length = 1024 → (∀ v ∈ l, v ≤ 4095) → ∀ n, n < 512 →
       ((packPixels .wide12 l).getD (3 * n) 0).toNat = l.getD (2 * n) 0 / 16 ∧
       ((packPixels .wide12 l).getD (3 * n + 1) 0).toNat =
         l.getD (2 * n) 0 % 16 * 16 + l.getD (2 * n + 1) 0 / 256 ∧
       ((packPixels .wide12 l).getD (3 * n + 2) 0).toNat = l.getD (2 * n + 1) 0 % 256)) ∧
  (∀ (faulty : List Nat) (e : WarpEntry) (rest : List WarpEntry) (s : State), (∀ w ∈ faulty, w < 1048576) →
     s.warp.engine = .running → s.warp.waiting = .nothing → s.warp.queue = e :: rest → s.warp.discarding = false →
     16 ≤ s.tether.images.length →
     ∃ t, exec (.warpTileComplete faulty) s = .next t ∧ t.warp.next = s.warp.next ∧
       (∀ w, w ∈ t.badWords ↔ w ∈ s.badWords ∨ w ∈ faulty) ∧
       let c := s.warp.next % e.copy.width
       let r := s.warp.next / e.copy.width
       let levels := (List.range 32).flatMap fun j => (List.range 32).map fun i =>
         t.levelAt e (t.entryMesh e) (32 * c + i) (32 * r + j)
       let errors := (levels.map (·.2)).sum
       t.warp.corrupt = decide (errors ≠ 0) ∧
       t.warp.waiting = .tile ⟨0xE1, 0, u8 e.view.code ++ u16 e.tag ++ u8 c ++ u8 r ++ u8 (if errors = 0 then 0 else 1) ++
         packPixels e.copy.format (levels.map fun l => t.sentValue e.copy.format l.1)⟩ ∧
       t.faults = (raiseTimes .frameStoreEcc errors s).faults ∧
       (∀ slot x y, pixelPlace slot x y / 4 ∈ t.badWords → t.checkedPixel slot x y = 0) ∧
       (∀ slot x y, pixelPlace slot x y / 4 ∉ t.badWords → t.checkedPixel slot x y = s.pixel slot x y) ∧
       t.warp.queue = s.warp.queue ∧ t.slots = s.slots ∧ t.frameStore = s.frameStore ∧ t.mode = s.mode)

/-- The level of an output pixel: the fill value where a node of its cell is not valid or the source position leaves the image
or the circle; else the weighted mean of four pixels around the source position, rounded to nearest with halves up, the
neighbour 1024 read as 1023, and a pixel of an uncorrectable word read as 0, each such word read counting once; a pixel on a node
whose source is a whole pixel takes that pixel (R20, R105 to R107, R109). -/
def Obligations.LevelsSampleSource : Prop :=
  ∀ (s : State) (e : WarpEntry) (m : Mesh) (x y : Nat),
    let node := fun a b => m.nodes.getD ((y / 16 + b) * m.columns + (x / 16 + a)) ⟨0, 0, false⟩
    let mix := fun (f : Node → Int) => ((f (node 0 0) * (16 - (x % 16 : Nat)) + f (node 1 0) * (x % 16 : Nat)) *
      (16 - (y % 16 : Nat)) + (f (node 0 1) * (16 - (x % 16 : Nat)) + f (node 1 1) * (x % 16 : Nat)) * (y % 16 : Nat) + 128) / 256
    let sx := mix Node.sx
    let sy := mix Node.sy
    let valid := (node 0 0).valid = true ∧ (node 1 0).valid = true ∧ (node 0 1).valid = true ∧ (node 1 1).valid = true ∧
      0 ≤ sx ∧ sx ≤ 16368 ∧ 0 ≤ sy ∧ sy ≤ 16368 ∧
      (e.copy.radius = 0 ∨ (sx - e.copy.scx) ^ 2 + (sy - e.copy.scy) ^ 2 ≤ (16 * (e.copy.radius : Int)) ^ 2)
    (¬ valid → s.levelAt e m x y = (e.copy.fill, 0)) ∧
    (valid →
      let xi := sx.toNat / 16
      let yi := sy.toNat / 16
      let fx := sx.toNat % 16
      let fy := sy.toNat % 16
      let word := fun i j => pixelPlace e.slot (min 1023 (xi + i)) (min 1023 (yi + j)) / 4
      let p := fun i j => if word i j ∈ s.badWords then 0 else s.pixel e.slot (min 1023 (xi + i)) (min 1023 (yi + j))
      s.levelAt e m x y =
        (((p 0 0 * (16 - fx) + p 1 0 * fx) * (16 - fy) + (p 0 1 * (16 - fx) + p 1 1 * fx) * fy + 128) / 256,
          ([word 0 0, word 1 0, word 0 1, word 1 1].dedup.filter (· ∈ s.badWords)).length) ∧
      (fx = 0 → fy = 0 → (s.levelAt e m x y).1 = p 0 0))

/-- A waiting record takes a place of the image queue as one is free: a FRAME BEGIN, built then with the view's skip count,
which becomes 0 (R101); a TILE, after which the next tile begins, or after the last one the entry ends, its slot's count and its
buffer's use falling by one, with its FRAME END placed after it or owed (R8, R89, R102, R103, R104); the FRAME END owed by the
closing engine, which becomes IDLE, or begins the next entry with its FRAME BEGIN (R101, R103). With no place free, and the
engine not idle, nothing happens (R110; log 14). -/
def Obligations.ImageRecordTakesPlace : Prop :=
  ∀ s : State, s.warp.discarding = false →
    let begins := fun e : WarpEntry => (⟨0xE0, 0, u8 e.view.code ++ u8 e.purpose.code ++ u16 e.tag ++ u8 e.selector ++
      u8 e.copy.width ++ u8 e.copy.height ++ u8 e.copy.format.code ++ u8 e.record.index ++
      u16 (match e.view with
        | .a => s.capture.skipA
        | .b => s.capture.skipB) ++ u8 e.record.trip.code ++ u8 e.record.ring.code⟩ : Record)
    let ends := fun o : OwedEnd =>
      (⟨0xE2, 0, u8 o.view.code ++ u16 o.tag ++ u8 (if o.complete then 0 else 1) ++ u16 o.count⟩ : Record)
    (16 ≤ s.tether.images.length → s.warp.engine ≠ .idle → exec .imageRecordPlace s = .next s) ∧
    (∀ e rest, s.tether.images.length < 16 → s.warp.engine = .running → s.warp.queue = e :: rest →
      (s.warp.waiting = .frameBegin →
        exec .imageRecordPlace s = .next (({ s with
          warp.waiting := .nothing, tether := s.tether.pushImage (begins e) } : State).setSkip e.view 0)) ∧
      (∀ r, s.warp.waiting = .tile r → s.warp.next + 1 < e.copy.width * e.copy.height →
        exec .imageRecordPlace s = .next { s with
          tether := s.tether.pushImage r
          warp.waiting := .nothing, warp.next := s.warp.next + 1, warp.placed := s.warp.placed + 1,
          warp.corrupt := false }) ∧
      (∀ r, s.warp.waiting = .tile r → e.copy.width * e.copy.height ≤ s.warp.next + 1 →
        let owed : OwedEnd := ⟨e.view, e.tag, true, s.warp.placed + 1⟩
        (s.tether.images.length < 15 → rest = [] →
          exec .imageRecordPlace s = .next { s.entryEnded e with
            tether := (s.tether.pushImage r).pushImage (ends owed)
            warp := ⟨[], .idle, .nothing, s.warp.next, s.warp.placed + 1, false, false, none⟩ }) ∧
        (∀ e2 l, s.tether.images.length < 14 → s.tether.link = .up → rest = e2 :: l →
          exec .imageRecordPlace s = .next ({ s.entryEnded e with
            tether := ((s.tether.pushImage r).pushImage (ends owed)).pushImage (begins e2)
            warp := ⟨e2 :: l, .running, .nothing, 0, 0, false, false, none⟩ }.setSkip e2.view 0)) ∧
        (s.tether.images.length = 15 → s.tether.sending ≠ none →
          exec .imageRecordPlace s = .next { s.entryEnded e with
            tether := s.tether.pushImage r
            warp := ⟨rest, .closing, .nothing, s.warp.next, s.warp.placed + 1, false, false, some owed⟩ }))) ∧
    (∀ o, s.tether.images.length < 16 → s.warp.engine = .closing → s.warp.owed = some o → s.warp.queue = [] →
      exec .imageRecordPlace s = .next { s with
        tether := s.tether.pushImage (ends o), warp.engine := .idle, warp.owed := none }) ∧
    (∀ o e rest, s.tether.images.length < 15 → s.tether.link = .up → s.warp.engine = .closing → s.warp.owed = some o →
      s.warp.queue = e :: rest →
      exec .imageRecordPlace s = .next (({ s with
        tether := (s.tether.pushImage (ends o)).pushImage (begins e)
        warp := ⟨e :: rest, .running, .nothing, 0, 0, false, false, none⟩ } : State).setSkip e.view 0))

/-! ### Chapters 7 and 8 -/

/-- Write Channel Table is refused with REFUSED_MODE in RUN and with OUT_OF_RANGE for a channel above 11, a field outside its
range, dmin above dmax or a start drive outside them; else the five fields are replaced, the channel is NORMAL or DISABLED as
enabled says, and the reply carries the enabled channels' sum of dmin. Write Ring Budget is refused with REFUSED_MODE in RUN
and with OUT_OF_RANGE above 12276 or below that sum; else the budget is replaced and the reply carries the effective budget it
gives under the band. Nothing else changes (R116 to R118). -/
def Obligations.ChannelAndBudgetReplace : Prop :=
  ∀ (q : Req) (s : State),
    (∀ k c, s.serves q (.writeChannelTable q k c) →
      let refused := fun code => exec (.writeChannelTable q k c) s = .next (replied q 0xC0 code [] (s.taken q.port))
      let valid := k ≤ 11 ∧ c.enabled ≤ 1 ∧ c.dmin ≤ 1023 ∧ c.dmax ≤ 1023 ∧ c.start ≤ 1023 ∧ c.limit ≤ 4095 ∧
        c.dmin ≤ c.start ∧ c.start ≤ c.dmax
      let table := s.ring.channels.set k
        ⟨decide (c.enabled = 1), c.dmin, c.dmax, c.start, c.limit, if c.enabled = 1 then .normal else .disabled⟩
      (s.mode = .run → refused .refusedMode) ∧
      (s.mode = .setup → ¬ valid → refused .outOfRange) ∧
      (s.mode = .setup → valid →
        exec (.writeChannelTable q k c) s =
          .next (replied q 0xC0 .ok (u16 ((table.filter (·.enabled)).map (·.dmin)).sum)
            { s.taken q.port with ring.channels := table }))) ∧
    (∀ b, s.serves q (.writeRingBudget q b) →
      let sum := ((s.ring.channels.filter (·.enabled)).map (·.dmin)).sum
      let floor := ((s.ring.channels.filter fun c => c.enabled && c.state == .normal).map (·.dmin)).sum
      exec (.writeRingBudget q b) s =
        .next (if s.mode = .run then replied q 0xC1 .refusedMode [] (s.taken q.port)
          else if 12276 < b ∨ b < sum then replied q 0xC1 .outOfRange [] (s.taken q.port)
          else replied q 0xC1 .ok
            (u16 (max (match s.ring.band with
              | .normal => b
              | .warm => 3 * b / 4
              | .hot => b / 2) floor))
            { s.taken q.port with ring.budget := b }))

/-- The budget step: proposed codes whose sum is at most the effective budget become the codes; else each enabled NORMAL
channel gets dmin and its share, rounded down, of what the budget leaves above all dmin, in proportion to how far its proposed
code stands above dmin, within dmin to that code, and the others 0; the sum is then at most the effective budget (R119). -/
def Obligations.BudgetStepKeepsBudget : Prop :=
  ∀ (r : Ring) (proposed : List Nat), r.channels.length = 12 → proposed.length = 12 →
    (∀ k, k < 12 →
      let c := r.channels.getD k Channel.atReset
      if c.usable = true then c.dmin ≤ proposed.getD k 0 else proposed.getD k 0 = 0) →
    (r.budgetStep proposed).length = 12 ∧ (r.budgetStep proposed).sum ≤ r.effective ∧
    (proposed.sum ≤ r.effective → r.budgetStep proposed = proposed) ∧
    (r.effective < proposed.sum → ∀ k, k < 12 →
      let c := r.channels.getD k Channel.atReset
      if c.usable = true then
        (r.budgetStep proposed).getD k 0 = c.dmin + (proposed.getD k 0 - c.dmin) *
          (r.effective - ((r.channels.filter (·.usable)).map (·.dmin)).sum) /
          ((List.range 12).map fun j =>
            let cj := r.channels.getD j Channel.atReset
            if cj.usable then proposed.getD j 0 - cj.dmin else 0).sum ∧
        c.dmin ≤ (r.budgetStep proposed).getD k 0 ∧ (r.budgetStep proposed).getD k 0 ≤ proposed.getD k 0
      else (r.budgetStep proposed).getD k 0 = 0)

/-- Set Drive is refused with REFUSED_MODE outside RUN, in loop mode LOOP and with the ring not LIT, and with OP_IN_PROGRESS
under a flat-field acquisition; else each enabled NORMAL channel proposes its code saturated to dmin to dmax, the others 0, the
budget step settles them, the reply carries the twelve codes in effect and whether the step scaled, and nothing else changes
(R119, R136). -/
def Obligations.SetDriveSettlesCodes : Prop :=
  ∀ (q : Req) (l : List Nat) (s : State), s.serves q (.setDrive q l) →
    let refused := fun c => exec (.setDrive q l) s = .next (replied q 0xC4 c [] (s.taken q.port))
    (s.mode ≠ .run ∨ s.ring.balance.loopMode = .loop ∨ s.ring.state ≠ .lit → refused .refusedMode) ∧
    (s.mode = .run → s.ring.balance.loopMode = .manual → s.ring.state = .lit →
      ((∃ a, s.cal.acq = some a ∧ a.kind = .flat) → refused .opInProgress) ∧
      ((∀ a, s.cal.acq = some a → a.kind = .dark) → s.ring.channels.length = 12 → (∀ c ∈ s.ring.channels, c.dmin ≤ c.dmax) →
        ∃ proposed, proposed.length = 12 ∧
          (∀ k, k < 12 →
            let c := s.ring.channels.getD k Channel.atReset
            proposed.getD k 0 = if c.enabled = true ∧ c.state = .normal then max c.dmin (min c.dmax (l.getD k 0)) else 0) ∧
          exec (.setDrive q l) s =
            .next (replied q 0xC4 .ok
              ((s.ring.budgetStep proposed).flatMap u16 ++ flag (decide (s.ring.effective < proposed.sum)))
              { s.taken q.port with ring.codes := s.ring.budgetStep proposed })))

/-! ### Chapter 9 -/

/-- A raise of a kind that is CLEAR sets it with the tag of the latest frame start in RUN and 4095 outside, counts it up to
65535, forms the FAULT line anew and, unless masked, queues FAULT RAISED with kind, severity and tag; a raise of a SET kind
only counts; no other kind changes (R159). -/
def Obligations.RaiseSetsFault : Prop :=
  ∀ (k : FaultKind) (s : State), s.faults.entries.length = 12 →
    let e := s.faults.entry k
    let tag := if s.mode = .run then s.capture.tag else 4095
    (∀ j, j ≠ k → (raise k s).faults.entry j = s.faults.entry j) ∧
    (raise k s).faults.lineEnabled = s.faults.lineEnabled ∧
    (e.set = true →
      (raise k s).faults.entry k = { e with count := min 65535 (e.count + 1) } ∧
      (raise k s).faults.line = s.faults.line ∧ (raise k s).tether = s.tether) ∧
    (e.set = false →
      (raise k s).faults.entry k = { e with set := true, tag := some tag, count := min 65535 (e.count + 1) } ∧
      ((raise k s).faults.line = true ↔ s.faults.lineEnabled = true ∧
        ∃ j, ((raise k s).faults.entry j).set = true ∧ ((raise k s).faults.entry j).severity = .fatal ∧
          ((raise k s).faults.entry j).masked = false) ∧
      (raise k s).tether =
        if e.masked = true then s.tether
        else s.tether.pushNotice ⟨0xF1, 0, u8 k.code ++ u8 e.severity.code ++ u16 tag⟩) ∧
    raise k s = { s with faults := (raise k s).faults, tether := (raise k s).tether }

/-- Clear Faults is refused with OUT_OF_RANGE for a kind outside Table 9-2, clearing nothing; else every listed kind that
is SET and whose condition does not stand becomes CLEAR with no tag and count 0, every other kind stays, the FAULT
line is formed anew, and the reply lists the listed kinds still SET in the order of Table 9-2 (R160, R162). Set Fault
Policy is refused with OUT_OF_RANGE, changing nothing, for a severity, a mask or a line enable outside its values;
else every severity and mask and the line enable are replaced, status, tag and count of every kind stay, and the FAULT
line is formed anew; no notice is sent (R161, R162). The condition of each kind is that of Table 9-2: a leak accepted or among the
lock causes, the band HOT, the ring absent, a channel OPEN, trip level 1 or 2, trip level 2, SILENT; for the last five kinds it
never stands (R154 (2), R158). -/
def Obligations.FaultRequestsChangeTable : Prop :=
  (∀ (q : Req) (l : List Nat) (s : State), s.serves q (.clearFaults q l) → s.faults.entries.length = 12 →
     ((∃ n ∈ l, 11 < n) → exec (.clearFaults q l) s = .next (replied q 0xD1 .outOfRange [] (s.taken q.port))) ∧
     ((∀ n ∈ l, n ≤ 11) →
       ∃ table : FaultTable, table.entries.length = 12 ∧ table.lineEnabled = s.faults.lineEnabled ∧
         (∀ k : FaultKind, table.entry k =
           if k.code ∈ l ∧ (s.faults.entry k).set = true ∧ s.conditionStands k = false then
             { s.faults.entry k with set := false, tag := none, count := 0 }
           else s.faults.entry k) ∧
         (table.line = true ↔ table.lineEnabled = true ∧
           ∃ k, (table.entry k).set = true ∧ (table.entry k).severity = .fatal ∧ (table.entry k).masked = false) ∧
         exec (.clearFaults q l) s =
           .next (replied q 0xD1 .ok
             (((List.range 12).filter fun n => l.contains n && (table.entries.getD n ⟨false, .notice, false, none, 0⟩).set).flatMap u8)
             { s.taken q.port with faults := table }))) ∧
  (∀ (q : Req) (l : List PolicyArg) (enable : Nat) (s : State), s.serves q (.setFaultPolicy q l enable) →
     s.faults.entries.length = 12 →
     ((1 < enable ∨ ∃ p ∈ l, 2 < p.severity ∨ 1 < p.mask) →
       exec (.setFaultPolicy q l enable) s = .next (replied q 0xD2 .outOfRange [] (s.taken q.port))) ∧
     (enable ≤ 1 → (∀ p ∈ l, p.severity ≤ 2 ∧ p.mask ≤ 1) →
       ∃ table : FaultTable, table.entries.length = 12 ∧ table.lineEnabled = decide (enable = 1) ∧
         (∀ k : FaultKind,
           (table.entry k).set = (s.faults.entry k).set ∧ (table.entry k).tag = (s.faults.entry k).tag ∧
           (table.entry k).count = (s.faults.entry k).count ∧
           (table.entry k).severity.code = (l.getD k.code ⟨0, 0⟩).severity ∧
           (table.entry k).masked = decide ((l.getD k.code ⟨0, 0⟩).mask = 1)) ∧
         (table.line = true ↔ table.lineEnabled = true ∧
           ∃ k, (table.entry k).set = true ∧ (table.entry k).severity = .fatal ∧ (table.entry k).masked = false) ∧
         exec (.setFaultPolicy q l enable) s = .next (replied q 0xD2 .ok [] { s.taken q.port with faults := table }))) ∧
  (∀ s : State,
     let stands := fun k => s.conditionStands k = true
     (stands .housingLeak ↔ s.head.leak.accepted = .active ∨ s.ring.causes.leak = true) ∧
     (stands .headHot ↔ s.head.hot.accepted = .active) ∧
     (stands .ringAbsent ↔ s.head.present.accepted = .inactive) ∧
     (stands .channelOpen ↔ ∃ c ∈ s.ring.channels, c.state = .opened) ∧
     (stands .ringDimTrip ↔ s.sup.level = .one ∨ s.sup.level = .two) ∧ (stands .ringOffTrip ↔ s.sup.level = .two) ∧
     (stands .expanderSilent ↔ s.head.silent = true) ∧
     ∀ k ∈ [FaultKind.sensorTimeout, .frameStoreEcc, .storeImageBad, .storeImageIrregular, .linkLost], ¬ stands k)

/-- A read is asked for by the interrupt input as it becomes active while SPEAKING, by the poll timer at any time and by a
running confirmation timer as it expires: it starts on an idle master, and during a transfer becomes the one pending read.
Another level of the interrupt input is only noted, and a timer that does not run cannot expire (R152, R153, R156; log 3). A
transfer that ends is followed by the pending write before the pending read, else the master is idle; an acknowledged supply
or set-up write leaves its value on the supply line; the first failure is retried, but while SILENT it is not: the monitor
stays SILENT and raises nothing, and a failed write leaves the supply line UNKNOWN (a set-up write by log 27); an end with no
such transfer in flight changes nothing (R151, R152, R155, R156; log 3). What follows an acknowledged read is stated in
ReadAcceptsInputs. -/
def Obligations.HeadTransfersRun : Prop :=
  (∀ s : State,
     let asked : Head → Head := fun h =>
       if h.transfer = none then { h with transfer := some .read, retried := false } else { h with pendingRead := true }
     exec .pollTimerExpiry s = .next { s with head := asked s.head } ∧
     (s.head.interrupt = false → s.head.silent = false →
       exec (.expanderInterrupt true) s = .next { s with head := asked { s.head with interrupt := true } }) ∧
     (s.head.interrupt = true ∨ s.head.silent = true →
       exec (.expanderInterrupt true) s = .next { s with head.interrupt := true }) ∧
     exec (.expanderInterrupt false) s = .next { s with head.interrupt := false } ∧
     (∀ i, (s.head.line i).timer = false → exec (.confirmationTimerExpiry i) s = .next s) ∧
     (∀ i, (s.head.line i).timer = true →
       exec (.confirmationTimerExpiry i) s =
         .next { s with head := asked (s.head.setLine i { s.head.line i with timer := false }) })) ∧
  (∀ (v : Bool) (s : State),
     let next : Head → Head := fun h =>
       match h.pendingWrite with
       | some w => { h with transfer := some (.supplyWrite w), pendingWrite := none, retried := false }
       | none =>
         if h.pendingRead = true then { h with transfer := some .read, pendingRead := false, retried := false }
         else { h with transfer := none, retried := false }
     (s.head.transfer = some (.supplyWrite v) →
       exec (.supplyWriteEnd true) s = .next { s with head := next { s.head with supply := if v then .on else .off } } ∧
       (s.head.silent = false → s.head.retried = false →
         exec (.supplyWriteEnd false) s = .next { s with head.retried := true }) ∧
       (s.head.silent = true →
         exec (.supplyWriteEnd false) s = .next { s with head := next { s.head with supply := .unknown } }) ∧
       ∀ ack, exec (.setUpWriteEnd ack) s = .next s) ∧
     (s.head.transfer = some (.setUp v) →
       exec (.setUpWriteEnd true) s =
         .next { s with head := next { s.head with supply := if v then .on else .off, linesSet := true } } ∧
       (s.head.silent = false → s.head.retried = false →
         exec (.setUpWriteEnd false) s = .next { s with head.retried := true }) ∧
       (s.head.silent = true →
         exec (.setUpWriteEnd false) s = .next { s with head := next { s.head with supply := .unknown } }) ∧
       ∀ ack, exec (.supplyWriteEnd ack) s = .next s) ∧
     (s.head.transfer = some .read → s.head.silent = false → s.head.retried = false → ∀ values start,
       exec (.inputReadEnd false values start) s = .next { s with head.retried := true }) ∧
     (s.head.transfer = some .read → s.head.silent = true → ∀ values start,
       exec (.inputReadEnd false values start) s = .next { s with head := next s.head }) ∧
     (s.head.transfer = none ∨ s.head.transfer = some .read → ∀ ack,
       exec (.supplyWriteEnd ack) s = .next s ∧ exec (.setUpWriteEnd ack) s = .next s) ∧
     (s.head.transfer ≠ some .read → ∀ ack values start, exec (.inputReadEnd ack values start) s = .next s))

/-- A transfer that fails after its retry makes the monitor SILENT: EXPANDER_SILENT is raised, candidates, timers and pending
transfers are dropped, the accepted values stay, a failed supply write leaves the supply line UNKNOWN, and a ring that is LIT,
DIM or ABSENT is locked off: codes 0, the demand OFF, the cause noted, and a flat-field acquisition in flight ended FAILED with
its notice and without its hold of the loop; a dark one goes on (R61, R128, R152, R155, R156). That a failed set-up write leaves
the supply line UNKNOWN as well is the model's deduction (log 27). -/
def Obligations.SilenceLocksRing : Prop :=
  ∀ (x : Transfer) (i : Instr) (s : State), s.head.transfer = some x → s.head.silent = false → s.head.retried = true →
    (x = .read ∧ (∃ values start, i = .inputReadEnd false values start) ∨
      (∃ v, x = .supplyWrite v) ∧ i = .supplyWriteEnd false ∨ (∃ v, x = .setUp v) ∧ i = .setUpWriteEnd false) →
    ∃ t, exec i s = .next t ∧ t.head.silent = true ∧ t.head.transfer = none ∧ t.head.pendingRead = false ∧
      t.head.pendingWrite = none ∧
      (∀ n, t.head.line n = { s.head.line n with candidate := none, timer := false }) ∧
      (x = .read → t.head.supply = s.head.supply) ∧ (x ≠ .read → t.head.supply = .unknown) ∧
      t.faults = (raise .expanderSilent s).faults ∧
      (s.ring.state = .off → t.ring = s.ring) ∧
      (s.ring.state = .lockedOff → t.ring = { s.ring with causes := { s.ring.causes with silent := true } }) ∧
      (s.ring.state = .lit ∨ s.ring.state = .dim ∨ s.ring.state = .absent →
        t.ring.state = .lockedOff ∧ t.ring.codes = List.replicate 12 0 ∧ t.ring.demand = false ∧
        t.ring.causes = { s.ring.causes with silent := true }) ∧
      (∀ a, s.cal.acq = some a → a.kind = .flat → s.ring.state = .lit ∨ s.ring.state = .dim ∨ s.ring.state = .absent →
        t.cal = { s.cal with acq := none } ∧ t.ring.flatHold = false ∧
        t.tether = (raise .expanderSilent s).tether.pushNotice ⟨0xF3, 0, u8 1 ++ u8 2 ++ u8 a.taken⟩) ∧
      ((∀ a, s.cal.acq = some a → a.kind = .dark) ∨ s.ring.state = .off ∨ s.ring.state = .lockedOff →
        t.cal = s.cal ∧ t.ring.flatHold = s.ring.flatHold ∧ t.tether = (raise .expanderSilent s).tether) ∧
      t.capture = s.capture ∧ t.slots = s.slots ∧ t.warp = s.warp ∧ t.mode = s.mode

/-- An acknowledged read meets each of the four inputs alone: a value equal to the accepted one drops the candidate; a value
that no candidate holds becomes the candidate with this read's start time and starts the timer; a candidate's value read again
at least 10 ms later is accepted and the candidate dropped, and sooner the candidate stays (R153; log 34, log 35). LEAK
accepted ACTIVE raises HOUSING_LEAK and locks off a ring that is LIT, DIM or ABSENT; it joins the lock causes of a LOCKED_OFF
ring and leaves one that is OFF (R128, R154 (1)). WARM or HOT accepted forms the band anew; one that differs from the band
last reported becomes the ring's band copy, in LIT the budget step settles the codes under it, and one that becomes HOT raises
HEAD_HOT (R118, R120, R154 (2)). RING_PRESENT accepted becomes the ring's presence copy: INACTIVE raises RING_ABSENT and makes
a LIT or DIM ring ABSENT, dark; ACTIVE lights an ABSENT ring without a trip with the start drives under the budget step, and
one with a dim trip at dmin (R118, R127, R154 (3)). A ring that becomes LOCKED_OFF, DIM or ABSENT ends a flat-field
acquisition in flight FAILED, with its notice and without its hold of the loop (R61). A lock changes the demand to OFF, and
its write becomes the pending one (R155 (4)). A read that ends while SPEAKING is followed by the pending write before the
pending read, else the master is idle (R152). A read that ends the silence starts the set-up write of the demand (R156) with a
pending read behind it (the model's deduction from R153 (4) and R156, log 26). -/
def Obligations.ReadAcceptsInputs : Prop :=
  ∀ (values : InputValues) (start : Nat) (s : State), s.head.transfer = some .read → s.faults.entries.length = 12 →
    ∃ t, exec (.inputReadEnd true values start) s = .next t ∧
      (∀ i,
        let l := s.head.line i
        let v := readValue values i
        let a := if v = true then Accepted.active else Accepted.inactive
        (l.accepted = a → t.head.line i = { l with candidate := none }) ∧
        (l.accepted ≠ a → (∀ n, l.candidate ≠ some (v, n)) →
          t.head.line i = { l with candidate := some (v, start), timer := true }) ∧
        (∀ n, l.accepted ≠ a → l.candidate = some (v, n) → n + 10000 ≤ start →
          t.head.line i = { l with accepted := a, candidate := none }) ∧
        (∀ n, l.accepted ≠ a → l.candidate = some (v, n) → start < n + 10000 → t.head.line i = l)) ∧
      t.head.silent = false ∧
      t.head.retried = false ∧ t.head.supply = s.head.supply ∧ t.head.linesSet = s.head.linesSet ∧
      t.head.interrupt = s.head.interrupt ∧
      let leaks := s.head.leak.accepted ≠ .active ∧ t.head.leak.accepted = .active
      let write := if leaks ∧ s.ring.demand = true ∧ (s.ring.state = .lit ∨ s.ring.state = .dim ∨ s.ring.state = .absent) then
        some false else s.head.pendingWrite
      (s.head.silent = true → t.head.transfer = some (.setUp s.ring.demand) ∧ t.head.pendingWrite = write ∧
        t.head.pendingRead = true) ∧
      (s.head.silent = false → t.head.pendingWrite = none ∧
        (∀ v, write = some v → t.head.transfer = some (.supplyWrite v) ∧ t.head.pendingRead = s.head.pendingRead) ∧
        (write = none → t.head.pendingRead = false ∧
          t.head.transfer = if s.head.pendingRead = true then some .read else none)) ∧
      let bandStays := s.head.warm.accepted = t.head.warm.accepted ∧ s.head.hot.accepted = t.head.hot.accepted
      let presenceStays := s.head.present.accepted = t.head.present.accepted
      let band := if t.head.hot.accepted = .active then Band.hot else if t.head.warm.accepted = .active then .warm else .normal
      let dark := List.replicate 12 0
      (leaks → (t.faults.entry .housingLeak).set = true ∧
        (s.ring.state = .lit ∨ s.ring.state = .dim ∨ s.ring.state = .absent →
          t.ring.state = .lockedOff ∧ t.ring.codes = dark ∧ t.ring.demand = false ∧
          t.ring.causes = { s.ring.causes with leak := true }) ∧
        (s.ring.state = .lockedOff →
          t.ring.state = .lockedOff ∧ t.ring.codes = s.ring.codes ∧ t.ring.demand = s.ring.demand ∧
          t.ring.causes = { s.ring.causes with leak := true }) ∧
        (s.ring.state = .off →
          t.ring.state = .off ∧ t.ring.codes = s.ring.codes ∧ t.ring.demand = s.ring.demand ∧
          t.ring.causes = s.ring.causes)) ∧
      (¬ leaks → t.ring.causes = s.ring.causes ∧ t.ring.demand = s.ring.demand) ∧
      (bandStays → t.head.band = s.head.band ∧ t.ring.band = s.ring.band ∧ t.ring.bandReported = s.ring.bandReported ∧
        t.faults.entry .headHot = s.faults.entry .headHot) ∧
      (¬ bandStays → t.head.band = some band) ∧
      (t.head.band ≠ s.head.band → t.ring.band = band ∧ t.ring.bandReported = true ∧
        (band = .hot → (t.faults.entry .headHot).set = true)) ∧
      (s.ring.state = .lit → ¬ leaks → presenceStays → t.ring.state = .lit ∧
        (bandStays → t.ring.codes = s.ring.codes) ∧
        (t.head.band ≠ s.head.band → s.head.warm.accepted = t.head.warm.accepted ∨ s.head.hot.accepted = t.head.hot.accepted →
          t.ring.codes = { s.ring with band := band }.budgetStep s.ring.codes)) ∧
      (presenceStays → t.ring.presence = s.ring.presence ∧ t.ring.presenceReported = s.ring.presenceReported ∧
        t.faults.entry .ringAbsent = s.faults.entry .ringAbsent) ∧
      (¬ presenceStays → t.ring.presence = decide (t.head.present.accepted = .active) ∧ t.ring.presenceReported = true ∧
        (t.head.present.accepted = .inactive → (t.faults.entry .ringAbsent).set = true)) ∧
      (¬ presenceStays → ¬ leaks →
        (t.head.present.accepted = .inactive → s.ring.state = .lit ∨ s.ring.state = .dim →
          t.ring.state = .absent ∧ t.ring.codes = dark) ∧
        (t.head.present.accepted = .active → s.ring.state = .absent → s.ring.trip = .none →
          t.ring.state = .lit ∧
          t.ring.codes = t.ring.budgetStep (s.ring.channels.map fun c => if c.usable then c.start else 0)) ∧
        (t.head.present.accepted = .active → s.ring.state = .absent → s.ring.trip = .one →
          t.ring.state = .dim ∧ t.ring.codes = s.ring.channels.map fun c => if c.usable then c.dmin else 0) ∧
        (s.ring.state = .off ∨ s.ring.state = .lockedOff →
          t.ring.state = s.ring.state ∧ t.ring.codes = s.ring.codes)) ∧
      (∀ a, s.cal.acq = some a → a.kind = .flat → t.ring.state ≠ s.ring.state →
        t.ring.state = .dim ∨ t.ring.state = .lockedOff ∨ t.ring.state = .absent →
        t.cal = { s.cal with acq := none } ∧ t.ring.flatHold = false ∧
        (s.tether.link = .up → s.tether.notices.length ≤ 4 →
          ⟨0xF3, 0, u8 1 ++ u8 2 ++ u8 a.taken⟩ ∈ t.tether.sending.toList ++ t.tether.notices)) ∧
      ((∀ a, s.cal.acq = some a → a.kind = .dark) ∨ t.ring.state = s.ring.state ∨ t.ring.state = .lit →
        t.cal = s.cal ∧ t.ring.flatHold = s.ring.flatHold) ∧
      t.ring.channels = s.ring.channels ∧ t.ring.trip = s.ring.trip ∧ t.ring.budget = s.ring.budget ∧
      t.capture = s.capture ∧ t.slots = s.slots ∧ t.warp = s.warp ∧ t.mode = s.mode

/-! ### Chapter 11 -/

/-- Store Write Page is refused with REFUSED_PRIVILEGE from the tether, REFUSED_MODE in RUN, OUT_OF_RANGE above page 2047
and OP_IN_PROGRESS during a flash operation, and else begins a page write, ACCEPTED; Store Read Page answers with the
page's 256 bytes or is refused with OUT_OF_RANGE or OP_IN_PROGRESS; Store Check begins a check and leaves its reply
for the check's end, or is refused with OP_IN_PROGRESS (R169, R180, R181). A page write that ends has replaced all 256
bytes of its page, which is defined again, and no other byte; a check that ends sends its reply with the verdict, for
BAD the first failed condition, the header, the two CRCs, the records walked and the irregular ones, and applies and
raises nothing (R169, R181; the reply's layout is log 18's, the records that count as walked and irregular, and the CRC computed
over an impossible length, log 25's). Without its operation in flight neither end can occur, and it changes nothing (log 3). -/
def Obligations.StoreOperationsRun : Prop :=
  (∀ (q : Req) (s : State),
     (∀ page l, s.serves q (.storeWritePage q page l) →
       exec (.storeWritePage q page l) s =
         .next (if q.port = .tether then replied q 0xD8 .refusedPrivilege [] (s.taken q.port)
           else if s.mode = .run then replied q 0xD8 .refusedMode [] (s.taken q.port)
           else if 2047 < page then replied q 0xD8 .outOfRange [] (s.taken q.port)
           else if s.store.op ≠ none then replied q 0xD8 .opInProgress [] (s.taken q.port)
           else replied q 0xD8 .accepted [] { s.taken q.port with store.op := some (.pageWrite page l) })) ∧
     (∀ page, s.serves q (.storeReadPage q page) →
       exec (.storeReadPage q page) s =
         .next (if 2047 < page then replied q 0xD9 .outOfRange [] (s.taken q.port)
           else if s.store.op ≠ none then replied q 0xD9 .opInProgress [] (s.taken q.port)
           else replied q 0xD9 .ok ((List.range 256).map fun i => s.store.byteAt (256 * page + i)) (s.taken q.port))) ∧
     (s.serves q (.storeCheck q) →
       exec (.storeCheck q) s =
         .next (if s.store.op ≠ none then replied q 0xDA .opInProgress [] (s.taken q.port)
           else { s.taken q.port with store.op := some (.check q) }))) ∧
  (∀ s : State,
     (∀ page l, s.store.op = some (.pageWrite page l) → l.length = 256 →
       ∃ x, exec .pageWriteEnd s = .next { s with store := x } ∧ x.op = none ∧
         (∀ i, i < 256 → x.byteAt (256 * page + i) = l.getD i 0) ∧
         (∀ a, a < 256 * page ∨ 256 * page + 256 ≤ a → x.byteAt a = s.store.byteAt a) ∧
         x.straps = s.store.straps ∧ x.outcome = s.store.outcome ∧ x.load = s.store.load) ∧
     ((∀ page l, s.store.op ≠ some (.pageWrite page l)) → exec .pageWriteEnd s = .next s) ∧
     (∀ q, s.store.op = some (.check q) →
       exec .storeCheckEnd s =
         .next (replied q 0xDA .ok
           ((match s.store.fault with
               | some n => u8 0 ++ (u8 1 ++ u8 (n - 1))
               | none => u8 (if irregularPositions s.store.records = [] then 2 else 1) ++ u8 0) ++
             u16 s.store.header.format ++ u32 s.store.header.length ++ u16 s.store.header.count ++ u32 s.store.header.crc ++
             u32 (s.store.computedCrc s.freeCount) ++ u16 s.store.records.length ++
             u16 (irregularPositions s.store.records).length ++
             (match irregularPositions s.store.records with
               | [] => u8 0
               | n :: _ => u8 1 ++ u16 n))
           { s with store.op := none, freeCount := s.freeCount + 1 })) ∧
     ((∀ q, s.store.op ≠ some (.check q)) → exec .storeCheckEnd s = .next s))

/-- The image is read: it is bad exactly when its format code is not 1, its length exceeds 524276, its CRC-32 differs or
its records do not end at its length; a bad one leaves every block in its reset state but for STORE_IMAGE_BAD and ends
the load in SETUP with DEFAULTS and the STARTED notice; a good one without records ends it with LOADED, and one with
records is applied from the first (R177, R179). A stored record of a kind of Table 11-2 has exactly the effect that its request
has, taken in SETUP from the service port, whose requests carry the PROTECTED privilege; one whose payload has not its length, or
that its owner refuses, and one of another kind, is skipped and raised as STORE_IMAGE_IRREGULAR (R117 for the budget spelled
out). PORT OPTIONS directly after the header replace each present part, the address at once and the rates for the next training
attempt (log 23), and are irregular elsewhere, with another length, with an address outside 8 to 119, or with another byte
outside 00 and 01 hex. After the last record the load ends in SETUP with LOADED, or IRREGULAR when one was skipped, and the
STARTED notice (R178, R179). A stored-record event with no record left to apply changes nothing (log 3). -/
def Obligations.StoredImageLoads : Prop :=
  (∀ s : State,
     let h := s.store.header
     let bad := h.format ≠ 1 ∨ 524276 < h.length ∨ crc32 (s.store.bytes 12 h.length) ≠ h.crc ∨
       (walkRecords h.count (s.store.bytes 12 h.length)).2 = false
     let records := (walkRecords h.count (s.store.bytes 12 h.length)).1
     (s.store.load ≠ .reading → exec .storeImageRead s = .next s) ∧
     (s.store.load = .reading →
       (bad → ∃ t, exec .storeImageRead s = .next t ∧ t = { s with
         mode := .setup, store.outcome := some .defaults, store.load := .idle
         faults := (raise .storeImageBad s).faults
         tether := (raise .storeImageBad s).tether.pushNotice ⟨0xF0, 0, u8 2⟩ }) ∧
       (¬ bad → records = [] → exec .storeImageRead s = .next { s with
         mode := .setup, store.outcome := some .loaded, store.load := .idle
         tether := s.tether.pushNotice ⟨0xF0, 0, u8 0⟩ }) ∧
       (¬ bad → records ≠ [] → exec .storeImageRead s = .next { s with store.load := .applying records true 0 }))) ∧
  (∀ (r : StoredRecord) (rest : List StoredRecord) (first : Bool) (skipped : Nat) (s : State),
     s.mode = .boot → s.store.load = .applying (r :: rest) first skipped →
     let goesOn := fun (skips : Nat) (t : State) => exec .storedRecordApply s =
       .next (if rest = [] then
           { t with
             mode := .setup, store.outcome := some (if skips = 0 then .loaded else .irregular), store.load := .idle
             tether := t.tether.pushNotice ⟨0xF0, 0, u8 (if skips = 0 then 0 else 1)⟩ }
         else { t with store.load := .applying rest false skips })
     let irregular := goesOn (skipped + 1) (raise .storeImageIrregular s)
     (r.kind ∉ [0x10, 0x11, 0x18, 0x19, 0x1A, 0x22, 0x24, 0x30, 0x32, 0x34, 0x40, 0x41, 0x42, 0x43, 0x48, 0x52, 0x5F] →
       irregular) ∧
     (r.kind ∈ [0x10, 0x11, 0x18, 0x19, 0x1A, 0x22, 0x24, 0x30, 0x32, 0x34, 0x40, 0x41, 0x42, 0x43, 0x48, 0x52] →
       (readRequest ⟨.service, 0⟩ r.kind r.payload = none → irregular) ∧
       (∀ i, readRequest ⟨.service, 0⟩ r.kind r.payload = some i →
         ∃ t code data, exec i { s with
             mode := .setup, serviceQueue := [], service.replies := [], lastServed := .tether, restartPending := none
             store.op := none } = .next t ∧
           t.service.replies = [⟨r.kind + 0x80, 0, u8 code ++ data⟩] ∧
           (code ≤ 1 → goesOn skipped { t with
             mode := .boot, serviceQueue := s.serviceQueue, service.replies := s.service.replies
             lastServed := s.lastServed, restartPending := s.restartPending, store.op := s.store.op }) ∧
           (1 < code → code < 256 ∧ irregular))) ∧
     (r.kind = 0x41 → r.payload.length ≠ 2 → irregular) ∧
     (∀ b, r.kind = 0x41 → b < 65536 → r.payload = u16 b →
       if b ≤ 12276 ∧ ((s.ring.channels.filter (·.enabled)).map (·.dmin)).sum ≤ b then
         goesOn skipped { s with ring.budget := b }
       else irregular) ∧
     (r.kind = 0x5F → first = false ∨ r.payload.length ≠ 6 → irregular) ∧
     (∀ m1 a m2 alt m3 rate : Byte, r.kind = 0x5F → first = true → r.payload = [m1, a, m2, alt, m3, rate] →
       if m1.toNat ≤ 1 ∧ m2.toNat ≤ 1 ∧ alt.toNat ≤ 1 ∧ m3.toNat ≤ 1 ∧ rate.toNat ≤ 1 ∧ 8 ≤ a.toNat ∧ a.toNat ≤ 119 then
         let newRate : Rate := if rate = 1#8 then .reduced else .full
         let alternation := if m2 = 1#8 then decide (alt = 1#8) else s.tether.alternation
         goesOn skipped { s with
           service.address := if m1 = 1#8 then a.toNat else s.service.address
           tether.startRate := if m3 = 1#8 then newRate else s.tether.startRate
           tether.alternation := alternation
           tether.offered :=
             if m3 = 1#8 ∧ s.tether.link = .down ∧ s.tether.lostLock = false ∧ alternation = false then newRate
             else s.tether.offered }
       else irregular)) ∧
  (∀ s : State, (∀ l first skipped, s.store.load = .applying l first skipped → l = []) → exec .storedRecordApply s = .next s)

end
end

