-- ==== Sys2Proof/Laws/State.lean ====
section
/-! SUPPORT. The fields a named update leaves alone, one lemma per field per update, and what the updates of views, queues and
links write. -/

namespace Sys2Proof.Machine

/-! ### State.setView -/

@[simp] theorem State.setView_pending (s : State) (v : View) (x : ViewSlot) : (s.setView v x).pending = s.pending := by cases v <;> rfl
@[simp] theorem State.setView_mode (s : State) (v : View) (x : ViewSlot) : (s.setView v x).mode = s.mode := by cases v <;> rfl
@[simp] theorem State.setView_lastServed (s : State) (v : View) (x : ViewSlot) : (s.setView v x).lastServed = s.lastServed := by cases v <;> rfl
@[simp] theorem State.setView_tetherQueue (s : State) (v : View) (x : ViewSlot) : (s.setView v x).tetherQueue = s.tetherQueue := by cases v <;> rfl
@[simp] theorem State.setView_serviceQueue (s : State) (v : View) (x : ViewSlot) : (s.setView v x).serviceQueue = s.serviceQueue := by cases v <;> rfl
@[simp] theorem State.setView_linkTether (s : State) (v : View) (x : ViewSlot) : (s.setView v x).linkTether = s.linkTether := by cases v <;> rfl
@[simp] theorem State.setView_linkService (s : State) (v : View) (x : ViewSlot) : (s.setView v x).linkService = s.linkService := by cases v <;> rfl
@[simp] theorem State.setView_restartPending (s : State) (v : View) (x : ViewSlot) : (s.setView v x).restartPending = s.restartPending := by cases v <;> rfl
@[simp] theorem State.setView_tether (s : State) (v : View) (x : ViewSlot) : (s.setView v x).tether = s.tether := by cases v <;> rfl
@[simp] theorem State.setView_service (s : State) (v : View) (x : ViewSlot) : (s.setView v x).service = s.service := by cases v <;> rfl
@[simp] theorem State.setView_capture (s : State) (v : View) (x : ViewSlot) : (s.setView v x).capture = s.capture := by cases v <;> rfl
@[simp] theorem State.setView_slots (s : State) (v : View) (x : ViewSlot) : (s.setView v x).slots = s.slots := by cases v <;> rfl
@[simp] theorem State.setView_held (s : State) (v : View) (x : ViewSlot) : (s.setView v x).held = s.held := by cases v <;> rfl
@[simp] theorem State.setView_nextPin (s : State) (v : View) (x : ViewSlot) : (s.setView v x).nextPin = s.nextPin := by cases v <;> rfl
@[simp] theorem State.setView_frameStore (s : State) (v : View) (x : ViewSlot) : (s.setView v x).frameStore = s.frameStore := by cases v <;> rfl
@[simp] theorem State.setView_badWords (s : State) (v : View) (x : ViewSlot) : (s.setView v x).badWords = s.badWords := by cases v <;> rfl
@[simp] theorem State.setView_cond (s : State) (v : View) (x : ViewSlot) : (s.setView v x).cond = s.cond := by cases v <;> rfl
@[simp] theorem State.setView_cal (s : State) (v : View) (x : ViewSlot) : (s.setView v x).cal = s.cal := by cases v <;> rfl
@[simp] theorem State.setView_table (s : State) (v : View) (x : ViewSlot) : (s.setView v x).table = s.table := by cases v <;> rfl
@[simp] theorem State.setView_warp (s : State) (v : View) (x : ViewSlot) : (s.setView v x).warp = s.warp := by cases v <;> rfl
@[simp] theorem State.setView_ring (s : State) (v : View) (x : ViewSlot) : (s.setView v x).ring = s.ring := by cases v <;> rfl
@[simp] theorem State.setView_sup (s : State) (v : View) (x : ViewSlot) : (s.setView v x).sup = s.sup := by cases v <;> rfl
@[simp] theorem State.setView_head (s : State) (v : View) (x : ViewSlot) : (s.setView v x).head = s.head := by cases v <;> rfl
@[simp] theorem State.setView_faults (s : State) (v : View) (x : ViewSlot) : (s.setView v x).faults = s.faults := by cases v <;> rfl
@[simp] theorem State.setView_store (s : State) (v : View) (x : ViewSlot) : (s.setView v x).store = s.store := by cases v <;> rfl
@[simp] theorem State.setView_freeCount (s : State) (v : View) (x : ViewSlot) : (s.setView v x).freeCount = s.freeCount := by cases v <;> rfl

/-! ### State.setQueue -/

@[simp] theorem State.setQueue_pending (s : State) (p : Port) (l : List Waiting) : (s.setQueue p l).pending = s.pending := by cases p <;> rfl
@[simp] theorem State.setQueue_mode (s : State) (p : Port) (l : List Waiting) : (s.setQueue p l).mode = s.mode := by cases p <;> rfl
@[simp] theorem State.setQueue_lastServed (s : State) (p : Port) (l : List Waiting) : (s.setQueue p l).lastServed = s.lastServed := by cases p <;> rfl
@[simp] theorem State.setQueue_linkTether (s : State) (p : Port) (l : List Waiting) : (s.setQueue p l).linkTether = s.linkTether := by cases p <;> rfl
@[simp] theorem State.setQueue_linkService (s : State) (p : Port) (l : List Waiting) : (s.setQueue p l).linkService = s.linkService := by cases p <;> rfl
@[simp] theorem State.setQueue_restartPending (s : State) (p : Port) (l : List Waiting) : (s.setQueue p l).restartPending = s.restartPending := by cases p <;> rfl
@[simp] theorem State.setQueue_tether (s : State) (p : Port) (l : List Waiting) : (s.setQueue p l).tether = s.tether := by cases p <;> rfl
@[simp] theorem State.setQueue_service (s : State) (p : Port) (l : List Waiting) : (s.setQueue p l).service = s.service := by cases p <;> rfl
@[simp] theorem State.setQueue_capture (s : State) (p : Port) (l : List Waiting) : (s.setQueue p l).capture = s.capture := by cases p <;> rfl
@[simp] theorem State.setQueue_slots (s : State) (p : Port) (l : List Waiting) : (s.setQueue p l).slots = s.slots := by cases p <;> rfl
@[simp] theorem State.setQueue_held (s : State) (p : Port) (l : List Waiting) : (s.setQueue p l).held = s.held := by cases p <;> rfl
@[simp] theorem State.setQueue_nextPin (s : State) (p : Port) (l : List Waiting) : (s.setQueue p l).nextPin = s.nextPin := by cases p <;> rfl
@[simp] theorem State.setQueue_frameStore (s : State) (p : Port) (l : List Waiting) : (s.setQueue p l).frameStore = s.frameStore := by cases p <;> rfl
@[simp] theorem State.setQueue_badWords (s : State) (p : Port) (l : List Waiting) : (s.setQueue p l).badWords = s.badWords := by cases p <;> rfl
@[simp] theorem State.setQueue_cond (s : State) (p : Port) (l : List Waiting) : (s.setQueue p l).cond = s.cond := by cases p <;> rfl
@[simp] theorem State.setQueue_cal (s : State) (p : Port) (l : List Waiting) : (s.setQueue p l).cal = s.cal := by cases p <;> rfl
@[simp] theorem State.setQueue_table (s : State) (p : Port) (l : List Waiting) : (s.setQueue p l).table = s.table := by cases p <;> rfl
@[simp] theorem State.setQueue_viewA (s : State) (p : Port) (l : List Waiting) : (s.setQueue p l).viewA = s.viewA := by cases p <;> rfl
@[simp] theorem State.setQueue_viewB (s : State) (p : Port) (l : List Waiting) : (s.setQueue p l).viewB = s.viewB := by cases p <;> rfl
@[simp] theorem State.setQueue_warp (s : State) (p : Port) (l : List Waiting) : (s.setQueue p l).warp = s.warp := by cases p <;> rfl
@[simp] theorem State.setQueue_ring (s : State) (p : Port) (l : List Waiting) : (s.setQueue p l).ring = s.ring := by cases p <;> rfl
@[simp] theorem State.setQueue_sup (s : State) (p : Port) (l : List Waiting) : (s.setQueue p l).sup = s.sup := by cases p <;> rfl
@[simp] theorem State.setQueue_head (s : State) (p : Port) (l : List Waiting) : (s.setQueue p l).head = s.head := by cases p <;> rfl
@[simp] theorem State.setQueue_faults (s : State) (p : Port) (l : List Waiting) : (s.setQueue p l).faults = s.faults := by cases p <;> rfl
@[simp] theorem State.setQueue_store (s : State) (p : Port) (l : List Waiting) : (s.setQueue p l).store = s.store := by cases p <;> rfl
@[simp] theorem State.setQueue_freeCount (s : State) (p : Port) (l : List Waiting) : (s.setQueue p l).freeCount = s.freeCount := by cases p <;> rfl

/-! ### State.setSkip -/

@[simp] theorem State.setSkip_pending (s : State) (v : View) (n : Nat) : (s.setSkip v n).pending = s.pending := by cases v <;> rfl
@[simp] theorem State.setSkip_mode (s : State) (v : View) (n : Nat) : (s.setSkip v n).mode = s.mode := by cases v <;> rfl
@[simp] theorem State.setSkip_lastServed (s : State) (v : View) (n : Nat) : (s.setSkip v n).lastServed = s.lastServed := by cases v <;> rfl
@[simp] theorem State.setSkip_tetherQueue (s : State) (v : View) (n : Nat) : (s.setSkip v n).tetherQueue = s.tetherQueue := by cases v <;> rfl
@[simp] theorem State.setSkip_serviceQueue (s : State) (v : View) (n : Nat) : (s.setSkip v n).serviceQueue = s.serviceQueue := by cases v <;> rfl
@[simp] theorem State.setSkip_linkTether (s : State) (v : View) (n : Nat) : (s.setSkip v n).linkTether = s.linkTether := by cases v <;> rfl
@[simp] theorem State.setSkip_linkService (s : State) (v : View) (n : Nat) : (s.setSkip v n).linkService = s.linkService := by cases v <;> rfl
@[simp] theorem State.setSkip_restartPending (s : State) (v : View) (n : Nat) : (s.setSkip v n).restartPending = s.restartPending := by cases v <;> rfl
@[simp] theorem State.setSkip_tether (s : State) (v : View) (n : Nat) : (s.setSkip v n).tether = s.tether := by cases v <;> rfl
@[simp] theorem State.setSkip_service (s : State) (v : View) (n : Nat) : (s.setSkip v n).service = s.service := by cases v <;> rfl
@[simp] theorem State.setSkip_slots (s : State) (v : View) (n : Nat) : (s.setSkip v n).slots = s.slots := by cases v <;> rfl
@[simp] theorem State.setSkip_held (s : State) (v : View) (n : Nat) : (s.setSkip v n).held = s.held := by cases v <;> rfl
@[simp] theorem State.setSkip_nextPin (s : State) (v : View) (n : Nat) : (s.setSkip v n).nextPin = s.nextPin := by cases v <;> rfl
@[simp] theorem State.setSkip_frameStore (s : State) (v : View) (n : Nat) : (s.setSkip v n).frameStore = s.frameStore := by cases v <;> rfl
@[simp] theorem State.setSkip_badWords (s : State) (v : View) (n : Nat) : (s.setSkip v n).badWords = s.badWords := by cases v <;> rfl
@[simp] theorem State.setSkip_cond (s : State) (v : View) (n : Nat) : (s.setSkip v n).cond = s.cond := by cases v <;> rfl
@[simp] theorem State.setSkip_cal (s : State) (v : View) (n : Nat) : (s.setSkip v n).cal = s.cal := by cases v <;> rfl
@[simp] theorem State.setSkip_table (s : State) (v : View) (n : Nat) : (s.setSkip v n).table = s.table := by cases v <;> rfl
@[simp] theorem State.setSkip_viewA (s : State) (v : View) (n : Nat) : (s.setSkip v n).viewA = s.viewA := by cases v <;> rfl
@[simp] theorem State.setSkip_viewB (s : State) (v : View) (n : Nat) : (s.setSkip v n).viewB = s.viewB := by cases v <;> rfl
@[simp] theorem State.setSkip_warp (s : State) (v : View) (n : Nat) : (s.setSkip v n).warp = s.warp := by cases v <;> rfl
@[simp] theorem State.setSkip_ring (s : State) (v : View) (n : Nat) : (s.setSkip v n).ring = s.ring := by cases v <;> rfl
@[simp] theorem State.setSkip_sup (s : State) (v : View) (n : Nat) : (s.setSkip v n).sup = s.sup := by cases v <;> rfl
@[simp] theorem State.setSkip_head (s : State) (v : View) (n : Nat) : (s.setSkip v n).head = s.head := by cases v <;> rfl
@[simp] theorem State.setSkip_faults (s : State) (v : View) (n : Nat) : (s.setSkip v n).faults = s.faults := by cases v <;> rfl
@[simp] theorem State.setSkip_store (s : State) (v : View) (n : Nat) : (s.setSkip v n).store = s.store := by cases v <;> rfl
@[simp] theorem State.setSkip_freeCount (s : State) (v : View) (n : Nat) : (s.setSkip v n).freeCount = s.freeCount := by cases v <;> rfl

/-! ### State.setMapLink -/

@[simp] theorem State.setMapLink_pending (s : State) (p : Port) (l : Option MapLink) : (s.setMapLink p l).pending = s.pending := by cases p <;> rfl
@[simp] theorem State.setMapLink_mode (s : State) (p : Port) (l : Option MapLink) : (s.setMapLink p l).mode = s.mode := by cases p <;> rfl
@[simp] theorem State.setMapLink_lastServed (s : State) (p : Port) (l : Option MapLink) : (s.setMapLink p l).lastServed = s.lastServed := by cases p <;> rfl
@[simp] theorem State.setMapLink_tetherQueue (s : State) (p : Port) (l : Option MapLink) : (s.setMapLink p l).tetherQueue = s.tetherQueue := by cases p <;> rfl
@[simp] theorem State.setMapLink_serviceQueue (s : State) (p : Port) (l : Option MapLink) : (s.setMapLink p l).serviceQueue = s.serviceQueue := by cases p <;> rfl
@[simp] theorem State.setMapLink_restartPending (s : State) (p : Port) (l : Option MapLink) : (s.setMapLink p l).restartPending = s.restartPending := by cases p <;> rfl
@[simp] theorem State.setMapLink_tether (s : State) (p : Port) (l : Option MapLink) : (s.setMapLink p l).tether = s.tether := by cases p <;> rfl
@[simp] theorem State.setMapLink_service (s : State) (p : Port) (l : Option MapLink) : (s.setMapLink p l).service = s.service := by cases p <;> rfl
@[simp] theorem State.setMapLink_capture (s : State) (p : Port) (l : Option MapLink) : (s.setMapLink p l).capture = s.capture := by cases p <;> rfl
@[simp] theorem State.setMapLink_slots (s : State) (p : Port) (l : Option MapLink) : (s.setMapLink p l).slots = s.slots := by cases p <;> rfl
@[simp] theorem State.setMapLink_held (s : State) (p : Port) (l : Option MapLink) : (s.setMapLink p l).held = s.held := by cases p <;> rfl
@[simp] theorem State.setMapLink_nextPin (s : State) (p : Port) (l : Option MapLink) : (s.setMapLink p l).nextPin = s.nextPin := by cases p <;> rfl
@[simp] theorem State.setMapLink_frameStore (s : State) (p : Port) (l : Option MapLink) : (s.setMapLink p l).frameStore = s.frameStore := by cases p <;> rfl
@[simp] theorem State.setMapLink_badWords (s : State) (p : Port) (l : Option MapLink) : (s.setMapLink p l).badWords = s.badWords := by cases p <;> rfl
@[simp] theorem State.setMapLink_cond (s : State) (p : Port) (l : Option MapLink) : (s.setMapLink p l).cond = s.cond := by cases p <;> rfl
@[simp] theorem State.setMapLink_cal (s : State) (p : Port) (l : Option MapLink) : (s.setMapLink p l).cal = s.cal := by cases p <;> rfl
@[simp] theorem State.setMapLink_table (s : State) (p : Port) (l : Option MapLink) : (s.setMapLink p l).table = s.table := by cases p <;> rfl
@[simp] theorem State.setMapLink_viewA (s : State) (p : Port) (l : Option MapLink) : (s.setMapLink p l).viewA = s.viewA := by cases p <;> rfl
@[simp] theorem State.setMapLink_viewB (s : State) (p : Port) (l : Option MapLink) : (s.setMapLink p l).viewB = s.viewB := by cases p <;> rfl
@[simp] theorem State.setMapLink_warp (s : State) (p : Port) (l : Option MapLink) : (s.setMapLink p l).warp = s.warp := by cases p <;> rfl
@[simp] theorem State.setMapLink_ring (s : State) (p : Port) (l : Option MapLink) : (s.setMapLink p l).ring = s.ring := by cases p <;> rfl
@[simp] theorem State.setMapLink_sup (s : State) (p : Port) (l : Option MapLink) : (s.setMapLink p l).sup = s.sup := by cases p <;> rfl
@[simp] theorem State.setMapLink_head (s : State) (p : Port) (l : Option MapLink) : (s.setMapLink p l).head = s.head := by cases p <;> rfl
@[simp] theorem State.setMapLink_faults (s : State) (p : Port) (l : Option MapLink) : (s.setMapLink p l).faults = s.faults := by cases p <;> rfl
@[simp] theorem State.setMapLink_store (s : State) (p : Port) (l : Option MapLink) : (s.setMapLink p l).store = s.store := by cases p <;> rfl
@[simp] theorem State.setMapLink_freeCount (s : State) (p : Port) (l : Option MapLink) : (s.setMapLink p l).freeCount = s.freeCount := by cases p <;> rfl

/-! ### State.taken -/

@[simp] theorem State.taken_pending (s : State) (p : Port) : (s.taken p).pending = s.pending := by cases p <;> rfl
@[simp] theorem State.taken_mode (s : State) (p : Port) : (s.taken p).mode = s.mode := by cases p <;> rfl
@[simp] theorem State.taken_linkTether (s : State) (p : Port) : (s.taken p).linkTether = s.linkTether := by cases p <;> rfl
@[simp] theorem State.taken_linkService (s : State) (p : Port) : (s.taken p).linkService = s.linkService := by cases p <;> rfl
@[simp] theorem State.taken_restartPending (s : State) (p : Port) : (s.taken p).restartPending = s.restartPending := by cases p <;> rfl
@[simp] theorem State.taken_tether (s : State) (p : Port) : (s.taken p).tether = s.tether := by cases p <;> rfl
@[simp] theorem State.taken_service (s : State) (p : Port) : (s.taken p).service = s.service := by cases p <;> rfl
@[simp] theorem State.taken_capture (s : State) (p : Port) : (s.taken p).capture = s.capture := by cases p <;> rfl
@[simp] theorem State.taken_slots (s : State) (p : Port) : (s.taken p).slots = s.slots := by cases p <;> rfl
@[simp] theorem State.taken_held (s : State) (p : Port) : (s.taken p).held = s.held := by cases p <;> rfl
@[simp] theorem State.taken_nextPin (s : State) (p : Port) : (s.taken p).nextPin = s.nextPin := by cases p <;> rfl
@[simp] theorem State.taken_frameStore (s : State) (p : Port) : (s.taken p).frameStore = s.frameStore := by cases p <;> rfl
@[simp] theorem State.taken_badWords (s : State) (p : Port) : (s.taken p).badWords = s.badWords := by cases p <;> rfl
@[simp] theorem State.taken_cond (s : State) (p : Port) : (s.taken p).cond = s.cond := by cases p <;> rfl
@[simp] theorem State.taken_cal (s : State) (p : Port) : (s.taken p).cal = s.cal := by cases p <;> rfl
@[simp] theorem State.taken_table (s : State) (p : Port) : (s.taken p).table = s.table := by cases p <;> rfl
@[simp] theorem State.taken_viewA (s : State) (p : Port) : (s.taken p).viewA = s.viewA := by cases p <;> rfl
@[simp] theorem State.taken_viewB (s : State) (p : Port) : (s.taken p).viewB = s.viewB := by cases p <;> rfl
@[simp] theorem State.taken_warp (s : State) (p : Port) : (s.taken p).warp = s.warp := by cases p <;> rfl
@[simp] theorem State.taken_ring (s : State) (p : Port) : (s.taken p).ring = s.ring := by cases p <;> rfl
@[simp] theorem State.taken_sup (s : State) (p : Port) : (s.taken p).sup = s.sup := by cases p <;> rfl
@[simp] theorem State.taken_head (s : State) (p : Port) : (s.taken p).head = s.head := by cases p <;> rfl
@[simp] theorem State.taken_faults (s : State) (p : Port) : (s.taken p).faults = s.faults := by cases p <;> rfl
@[simp] theorem State.taken_store (s : State) (p : Port) : (s.taken p).store = s.store := by cases p <;> rfl
@[simp] theorem State.taken_freeCount (s : State) (p : Port) : (s.taken p).freeCount = s.freeCount := by cases p <;> rfl

/-! ### pushReply -/

@[simp] theorem pushReply_pending (p : Port) (r : Record) (s : State) : (pushReply p r s).pending = s.pending := by cases p <;> rfl
@[simp] theorem pushReply_mode (p : Port) (r : Record) (s : State) : (pushReply p r s).mode = s.mode := by cases p <;> rfl
@[simp] theorem pushReply_lastServed (p : Port) (r : Record) (s : State) : (pushReply p r s).lastServed = s.lastServed := by cases p <;> rfl
@[simp] theorem pushReply_tetherQueue (p : Port) (r : Record) (s : State) : (pushReply p r s).tetherQueue = s.tetherQueue := by cases p <;> rfl
@[simp] theorem pushReply_serviceQueue (p : Port) (r : Record) (s : State) : (pushReply p r s).serviceQueue = s.serviceQueue := by cases p <;> rfl
@[simp] theorem pushReply_linkTether (p : Port) (r : Record) (s : State) : (pushReply p r s).linkTether = s.linkTether := by cases p <;> rfl
@[simp] theorem pushReply_linkService (p : Port) (r : Record) (s : State) : (pushReply p r s).linkService = s.linkService := by cases p <;> rfl
@[simp] theorem pushReply_restartPending (p : Port) (r : Record) (s : State) : (pushReply p r s).restartPending = s.restartPending := by cases p <;> rfl
@[simp] theorem pushReply_capture (p : Port) (r : Record) (s : State) : (pushReply p r s).capture = s.capture := by cases p <;> rfl
@[simp] theorem pushReply_slots (p : Port) (r : Record) (s : State) : (pushReply p r s).slots = s.slots := by cases p <;> rfl
@[simp] theorem pushReply_held (p : Port) (r : Record) (s : State) : (pushReply p r s).held = s.held := by cases p <;> rfl
@[simp] theorem pushReply_nextPin (p : Port) (r : Record) (s : State) : (pushReply p r s).nextPin = s.nextPin := by cases p <;> rfl
@[simp] theorem pushReply_frameStore (p : Port) (r : Record) (s : State) : (pushReply p r s).frameStore = s.frameStore := by cases p <;> rfl
@[simp] theorem pushReply_badWords (p : Port) (r : Record) (s : State) : (pushReply p r s).badWords = s.badWords := by cases p <;> rfl
@[simp] theorem pushReply_cond (p : Port) (r : Record) (s : State) : (pushReply p r s).cond = s.cond := by cases p <;> rfl
@[simp] theorem pushReply_cal (p : Port) (r : Record) (s : State) : (pushReply p r s).cal = s.cal := by cases p <;> rfl
@[simp] theorem pushReply_table (p : Port) (r : Record) (s : State) : (pushReply p r s).table = s.table := by cases p <;> rfl
@[simp] theorem pushReply_viewA (p : Port) (r : Record) (s : State) : (pushReply p r s).viewA = s.viewA := by cases p <;> rfl
@[simp] theorem pushReply_viewB (p : Port) (r : Record) (s : State) : (pushReply p r s).viewB = s.viewB := by cases p <;> rfl
@[simp] theorem pushReply_warp (p : Port) (r : Record) (s : State) : (pushReply p r s).warp = s.warp := by cases p <;> rfl
@[simp] theorem pushReply_ring (p : Port) (r : Record) (s : State) : (pushReply p r s).ring = s.ring := by cases p <;> rfl
@[simp] theorem pushReply_sup (p : Port) (r : Record) (s : State) : (pushReply p r s).sup = s.sup := by cases p <;> rfl
@[simp] theorem pushReply_head (p : Port) (r : Record) (s : State) : (pushReply p r s).head = s.head := by cases p <;> rfl
@[simp] theorem pushReply_faults (p : Port) (r : Record) (s : State) : (pushReply p r s).faults = s.faults := by cases p <;> rfl
@[simp] theorem pushReply_store (p : Port) (r : Record) (s : State) : (pushReply p r s).store = s.store := by cases p <;> rfl
@[simp] theorem pushReply_freeCount (p : Port) (r : Record) (s : State) : (pushReply p r s).freeCount = s.freeCount := by cases p <;> rfl

/-! ### pushNotice -/

@[simp] theorem pushNotice_pending (k : Nat) (l : List Byte) (s : State) : (pushNotice k l s).pending = s.pending := rfl
@[simp] theorem pushNotice_mode (k : Nat) (l : List Byte) (s : State) : (pushNotice k l s).mode = s.mode := rfl
@[simp] theorem pushNotice_lastServed (k : Nat) (l : List Byte) (s : State) : (pushNotice k l s).lastServed = s.lastServed := rfl
@[simp] theorem pushNotice_tetherQueue (k : Nat) (l : List Byte) (s : State) : (pushNotice k l s).tetherQueue = s.tetherQueue := rfl
@[simp] theorem pushNotice_serviceQueue (k : Nat) (l : List Byte) (s : State) : (pushNotice k l s).serviceQueue = s.serviceQueue := rfl
@[simp] theorem pushNotice_linkTether (k : Nat) (l : List Byte) (s : State) : (pushNotice k l s).linkTether = s.linkTether := rfl
@[simp] theorem pushNotice_linkService (k : Nat) (l : List Byte) (s : State) : (pushNotice k l s).linkService = s.linkService := rfl
@[simp] theorem pushNotice_restartPending (k : Nat) (l : List Byte) (s : State) : (pushNotice k l s).restartPending = s.restartPending := rfl
@[simp] theorem pushNotice_service (k : Nat) (l : List Byte) (s : State) : (pushNotice k l s).service = s.service := rfl
@[simp] theorem pushNotice_capture (k : Nat) (l : List Byte) (s : State) : (pushNotice k l s).capture = s.capture := rfl
@[simp] theorem pushNotice_slots (k : Nat) (l : List Byte) (s : State) : (pushNotice k l s).slots = s.slots := rfl
@[simp] theorem pushNotice_held (k : Nat) (l : List Byte) (s : State) : (pushNotice k l s).held = s.held := rfl
@[simp] theorem pushNotice_nextPin (k : Nat) (l : List Byte) (s : State) : (pushNotice k l s).nextPin = s.nextPin := rfl
@[simp] theorem pushNotice_frameStore (k : Nat) (l : List Byte) (s : State) : (pushNotice k l s).frameStore = s.frameStore := rfl
@[simp] theorem pushNotice_badWords (k : Nat) (l : List Byte) (s : State) : (pushNotice k l s).badWords = s.badWords := rfl
@[simp] theorem pushNotice_cond (k : Nat) (l : List Byte) (s : State) : (pushNotice k l s).cond = s.cond := rfl
@[simp] theorem pushNotice_cal (k : Nat) (l : List Byte) (s : State) : (pushNotice k l s).cal = s.cal := rfl
@[simp] theorem pushNotice_table (k : Nat) (l : List Byte) (s : State) : (pushNotice k l s).table = s.table := rfl
@[simp] theorem pushNotice_viewA (k : Nat) (l : List Byte) (s : State) : (pushNotice k l s).viewA = s.viewA := rfl
@[simp] theorem pushNotice_viewB (k : Nat) (l : List Byte) (s : State) : (pushNotice k l s).viewB = s.viewB := rfl
@[simp] theorem pushNotice_warp (k : Nat) (l : List Byte) (s : State) : (pushNotice k l s).warp = s.warp := rfl
@[simp] theorem pushNotice_ring (k : Nat) (l : List Byte) (s : State) : (pushNotice k l s).ring = s.ring := rfl
@[simp] theorem pushNotice_sup (k : Nat) (l : List Byte) (s : State) : (pushNotice k l s).sup = s.sup := rfl
@[simp] theorem pushNotice_head (k : Nat) (l : List Byte) (s : State) : (pushNotice k l s).head = s.head := rfl
@[simp] theorem pushNotice_faults (k : Nat) (l : List Byte) (s : State) : (pushNotice k l s).faults = s.faults := rfl
@[simp] theorem pushNotice_store (k : Nat) (l : List Byte) (s : State) : (pushNotice k l s).store = s.store := rfl
@[simp] theorem pushNotice_freeCount (k : Nat) (l : List Byte) (s : State) : (pushNotice k l s).freeCount = s.freeCount := rfl

/-! ### modifySlot -/

@[simp] theorem modifySlot_pending (n : Nat) (f : FrameSlot → FrameSlot) (s : State) : (modifySlot n f s).pending = s.pending := rfl
@[simp] theorem modifySlot_mode (n : Nat) (f : FrameSlot → FrameSlot) (s : State) : (modifySlot n f s).mode = s.mode := rfl
@[simp] theorem modifySlot_lastServed (n : Nat) (f : FrameSlot → FrameSlot) (s : State) : (modifySlot n f s).lastServed = s.lastServed := rfl
@[simp] theorem modifySlot_tetherQueue (n : Nat) (f : FrameSlot → FrameSlot) (s : State) : (modifySlot n f s).tetherQueue = s.tetherQueue := rfl
@[simp] theorem modifySlot_serviceQueue (n : Nat) (f : FrameSlot → FrameSlot) (s : State) : (modifySlot n f s).serviceQueue = s.serviceQueue := rfl
@[simp] theorem modifySlot_linkTether (n : Nat) (f : FrameSlot → FrameSlot) (s : State) : (modifySlot n f s).linkTether = s.linkTether := rfl
@[simp] theorem modifySlot_linkService (n : Nat) (f : FrameSlot → FrameSlot) (s : State) : (modifySlot n f s).linkService = s.linkService := rfl
@[simp] theorem modifySlot_restartPending (n : Nat) (f : FrameSlot → FrameSlot) (s : State) : (modifySlot n f s).restartPending = s.restartPending := rfl
@[simp] theorem modifySlot_tether (n : Nat) (f : FrameSlot → FrameSlot) (s : State) : (modifySlot n f s).tether = s.tether := rfl
@[simp] theorem modifySlot_service (n : Nat) (f : FrameSlot → FrameSlot) (s : State) : (modifySlot n f s).service = s.service := rfl
@[simp] theorem modifySlot_capture (n : Nat) (f : FrameSlot → FrameSlot) (s : State) : (modifySlot n f s).capture = s.capture := rfl
@[simp] theorem modifySlot_held (n : Nat) (f : FrameSlot → FrameSlot) (s : State) : (modifySlot n f s).held = s.held := rfl
@[simp] theorem modifySlot_nextPin (n : Nat) (f : FrameSlot → FrameSlot) (s : State) : (modifySlot n f s).nextPin = s.nextPin := rfl
@[simp] theorem modifySlot_frameStore (n : Nat) (f : FrameSlot → FrameSlot) (s : State) : (modifySlot n f s).frameStore = s.frameStore := rfl
@[simp] theorem modifySlot_badWords (n : Nat) (f : FrameSlot → FrameSlot) (s : State) : (modifySlot n f s).badWords = s.badWords := rfl
@[simp] theorem modifySlot_cond (n : Nat) (f : FrameSlot → FrameSlot) (s : State) : (modifySlot n f s).cond = s.cond := rfl
@[simp] theorem modifySlot_cal (n : Nat) (f : FrameSlot → FrameSlot) (s : State) : (modifySlot n f s).cal = s.cal := rfl
@[simp] theorem modifySlot_table (n : Nat) (f : FrameSlot → FrameSlot) (s : State) : (modifySlot n f s).table = s.table := rfl
@[simp] theorem modifySlot_viewA (n : Nat) (f : FrameSlot → FrameSlot) (s : State) : (modifySlot n f s).viewA = s.viewA := rfl
@[simp] theorem modifySlot_viewB (n : Nat) (f : FrameSlot → FrameSlot) (s : State) : (modifySlot n f s).viewB = s.viewB := rfl
@[simp] theorem modifySlot_warp (n : Nat) (f : FrameSlot → FrameSlot) (s : State) : (modifySlot n f s).warp = s.warp := rfl
@[simp] theorem modifySlot_ring (n : Nat) (f : FrameSlot → FrameSlot) (s : State) : (modifySlot n f s).ring = s.ring := rfl
@[simp] theorem modifySlot_sup (n : Nat) (f : FrameSlot → FrameSlot) (s : State) : (modifySlot n f s).sup = s.sup := rfl
@[simp] theorem modifySlot_head (n : Nat) (f : FrameSlot → FrameSlot) (s : State) : (modifySlot n f s).head = s.head := rfl
@[simp] theorem modifySlot_faults (n : Nat) (f : FrameSlot → FrameSlot) (s : State) : (modifySlot n f s).faults = s.faults := rfl
@[simp] theorem modifySlot_store (n : Nat) (f : FrameSlot → FrameSlot) (s : State) : (modifySlot n f s).store = s.store := rfl
@[simp] theorem modifySlot_freeCount (n : Nat) (f : FrameSlot → FrameSlot) (s : State) : (modifySlot n f s).freeCount = s.freeCount := rfl

/-! ### modifyBuffer -/

@[simp] theorem modifyBuffer_pending (v : View) (b : Nat) (f : MeshBuffer → MeshBuffer) (s : State) : (modifyBuffer v b f s).pending = s.pending := by cases v <;> rfl
@[simp] theorem modifyBuffer_mode (v : View) (b : Nat) (f : MeshBuffer → MeshBuffer) (s : State) : (modifyBuffer v b f s).mode = s.mode := by cases v <;> rfl
@[simp] theorem modifyBuffer_lastServed (v : View) (b : Nat) (f : MeshBuffer → MeshBuffer) (s : State) : (modifyBuffer v b f s).lastServed = s.lastServed := by cases v <;> rfl
@[simp] theorem modifyBuffer_tetherQueue (v : View) (b : Nat) (f : MeshBuffer → MeshBuffer) (s : State) : (modifyBuffer v b f s).tetherQueue = s.tetherQueue := by cases v <;> rfl
@[simp] theorem modifyBuffer_serviceQueue (v : View) (b : Nat) (f : MeshBuffer → MeshBuffer) (s : State) : (modifyBuffer v b f s).serviceQueue = s.serviceQueue := by cases v <;> rfl
@[simp] theorem modifyBuffer_linkTether (v : View) (b : Nat) (f : MeshBuffer → MeshBuffer) (s : State) : (modifyBuffer v b f s).linkTether = s.linkTether := by cases v <;> rfl
@[simp] theorem modifyBuffer_linkService (v : View) (b : Nat) (f : MeshBuffer → MeshBuffer) (s : State) : (modifyBuffer v b f s).linkService = s.linkService := by cases v <;> rfl
@[simp] theorem modifyBuffer_restartPending (v : View) (b : Nat) (f : MeshBuffer → MeshBuffer) (s : State) : (modifyBuffer v b f s).restartPending = s.restartPending := by cases v <;> rfl
@[simp] theorem modifyBuffer_tether (v : View) (b : Nat) (f : MeshBuffer → MeshBuffer) (s : State) : (modifyBuffer v b f s).tether = s.tether := by cases v <;> rfl
@[simp] theorem modifyBuffer_service (v : View) (b : Nat) (f : MeshBuffer → MeshBuffer) (s : State) : (modifyBuffer v b f s).service = s.service := by cases v <;> rfl
@[simp] theorem modifyBuffer_capture (v : View) (b : Nat) (f : MeshBuffer → MeshBuffer) (s : State) : (modifyBuffer v b f s).capture = s.capture := by cases v <;> rfl
@[simp] theorem modifyBuffer_slots (v : View) (b : Nat) (f : MeshBuffer → MeshBuffer) (s : State) : (modifyBuffer v b f s).slots = s.slots := by cases v <;> rfl
@[simp] theorem modifyBuffer_held (v : View) (b : Nat) (f : MeshBuffer → MeshBuffer) (s : State) : (modifyBuffer v b f s).held = s.held := by cases v <;> rfl
@[simp] theorem modifyBuffer_nextPin (v : View) (b : Nat) (f : MeshBuffer → MeshBuffer) (s : State) : (modifyBuffer v b f s).nextPin = s.nextPin := by cases v <;> rfl
@[simp] theorem modifyBuffer_frameStore (v : View) (b : Nat) (f : MeshBuffer → MeshBuffer) (s : State) : (modifyBuffer v b f s).frameStore = s.frameStore := by cases v <;> rfl
@[simp] theorem modifyBuffer_badWords (v : View) (b : Nat) (f : MeshBuffer → MeshBuffer) (s : State) : (modifyBuffer v b f s).badWords = s.badWords := by cases v <;> rfl
@[simp] theorem modifyBuffer_cond (v : View) (b : Nat) (f : MeshBuffer → MeshBuffer) (s : State) : (modifyBuffer v b f s).cond = s.cond := by cases v <;> rfl
@[simp] theorem modifyBuffer_cal (v : View) (b : Nat) (f : MeshBuffer → MeshBuffer) (s : State) : (modifyBuffer v b f s).cal = s.cal := by cases v <;> rfl
@[simp] theorem modifyBuffer_table (v : View) (b : Nat) (f : MeshBuffer → MeshBuffer) (s : State) : (modifyBuffer v b f s).table = s.table := by cases v <;> rfl
@[simp] theorem modifyBuffer_warp (v : View) (b : Nat) (f : MeshBuffer → MeshBuffer) (s : State) : (modifyBuffer v b f s).warp = s.warp := by cases v <;> rfl
@[simp] theorem modifyBuffer_ring (v : View) (b : Nat) (f : MeshBuffer → MeshBuffer) (s : State) : (modifyBuffer v b f s).ring = s.ring := by cases v <;> rfl
@[simp] theorem modifyBuffer_sup (v : View) (b : Nat) (f : MeshBuffer → MeshBuffer) (s : State) : (modifyBuffer v b f s).sup = s.sup := by cases v <;> rfl
@[simp] theorem modifyBuffer_head (v : View) (b : Nat) (f : MeshBuffer → MeshBuffer) (s : State) : (modifyBuffer v b f s).head = s.head := by cases v <;> rfl
@[simp] theorem modifyBuffer_faults (v : View) (b : Nat) (f : MeshBuffer → MeshBuffer) (s : State) : (modifyBuffer v b f s).faults = s.faults := by cases v <;> rfl
@[simp] theorem modifyBuffer_store (v : View) (b : Nat) (f : MeshBuffer → MeshBuffer) (s : State) : (modifyBuffer v b f s).store = s.store := by cases v <;> rfl
@[simp] theorem modifyBuffer_freeCount (v : View) (b : Nat) (f : MeshBuffer → MeshBuffer) (s : State) : (modifyBuffer v b f s).freeCount = s.freeCount := by cases v <;> rfl

/-! ### setPendingChange -/

@[simp] theorem setPendingChange_pending (v : View) (p : PendingChange) (s : State) : (setPendingChange v p s).pending = s.pending := by cases v <;> rfl
@[simp] theorem setPendingChange_mode (v : View) (p : PendingChange) (s : State) : (setPendingChange v p s).mode = s.mode := by cases v <;> rfl
@[simp] theorem setPendingChange_lastServed (v : View) (p : PendingChange) (s : State) : (setPendingChange v p s).lastServed = s.lastServed := by cases v <;> rfl
@[simp] theorem setPendingChange_tetherQueue (v : View) (p : PendingChange) (s : State) : (setPendingChange v p s).tetherQueue = s.tetherQueue := by cases v <;> rfl
@[simp] theorem setPendingChange_serviceQueue (v : View) (p : PendingChange) (s : State) : (setPendingChange v p s).serviceQueue = s.serviceQueue := by cases v <;> rfl
@[simp] theorem setPendingChange_linkTether (v : View) (p : PendingChange) (s : State) : (setPendingChange v p s).linkTether = s.linkTether := by cases v <;> rfl
@[simp] theorem setPendingChange_linkService (v : View) (p : PendingChange) (s : State) : (setPendingChange v p s).linkService = s.linkService := by cases v <;> rfl
@[simp] theorem setPendingChange_restartPending (v : View) (p : PendingChange) (s : State) : (setPendingChange v p s).restartPending = s.restartPending := by cases v <;> rfl
@[simp] theorem setPendingChange_tether (v : View) (p : PendingChange) (s : State) : (setPendingChange v p s).tether = s.tether := by cases v <;> rfl
@[simp] theorem setPendingChange_service (v : View) (p : PendingChange) (s : State) : (setPendingChange v p s).service = s.service := by cases v <;> rfl
@[simp] theorem setPendingChange_capture (v : View) (p : PendingChange) (s : State) : (setPendingChange v p s).capture = s.capture := by cases v <;> rfl
@[simp] theorem setPendingChange_slots (v : View) (p : PendingChange) (s : State) : (setPendingChange v p s).slots = s.slots := by cases v <;> rfl
@[simp] theorem setPendingChange_held (v : View) (p : PendingChange) (s : State) : (setPendingChange v p s).held = s.held := by cases v <;> rfl
@[simp] theorem setPendingChange_nextPin (v : View) (p : PendingChange) (s : State) : (setPendingChange v p s).nextPin = s.nextPin := by cases v <;> rfl
@[simp] theorem setPendingChange_frameStore (v : View) (p : PendingChange) (s : State) : (setPendingChange v p s).frameStore = s.frameStore := by cases v <;> rfl
@[simp] theorem setPendingChange_badWords (v : View) (p : PendingChange) (s : State) : (setPendingChange v p s).badWords = s.badWords := by cases v <;> rfl
@[simp] theorem setPendingChange_cond (v : View) (p : PendingChange) (s : State) : (setPendingChange v p s).cond = s.cond := by cases v <;> rfl
@[simp] theorem setPendingChange_cal (v : View) (p : PendingChange) (s : State) : (setPendingChange v p s).cal = s.cal := by cases v <;> rfl
@[simp] theorem setPendingChange_table (v : View) (p : PendingChange) (s : State) : (setPendingChange v p s).table = s.table := by cases v <;> rfl
@[simp] theorem setPendingChange_warp (v : View) (p : PendingChange) (s : State) : (setPendingChange v p s).warp = s.warp := by cases v <;> rfl
@[simp] theorem setPendingChange_ring (v : View) (p : PendingChange) (s : State) : (setPendingChange v p s).ring = s.ring := by cases v <;> rfl
@[simp] theorem setPendingChange_sup (v : View) (p : PendingChange) (s : State) : (setPendingChange v p s).sup = s.sup := by cases v <;> rfl
@[simp] theorem setPendingChange_head (v : View) (p : PendingChange) (s : State) : (setPendingChange v p s).head = s.head := by cases v <;> rfl
@[simp] theorem setPendingChange_faults (v : View) (p : PendingChange) (s : State) : (setPendingChange v p s).faults = s.faults := by cases v <;> rfl
@[simp] theorem setPendingChange_store (v : View) (p : PendingChange) (s : State) : (setPendingChange v p s).store = s.store := by cases v <;> rfl
@[simp] theorem setPendingChange_freeCount (v : View) (p : PendingChange) (s : State) : (setPendingChange v p s).freeCount = s.freeCount := by cases v <;> rfl

/-! ### setMark -/

@[simp] theorem setMark_pending (n : Nat) (m : Mark) (s : State) : (setMark n m s).pending = s.pending := rfl
@[simp] theorem setMark_mode (n : Nat) (m : Mark) (s : State) : (setMark n m s).mode = s.mode := rfl
@[simp] theorem setMark_lastServed (n : Nat) (m : Mark) (s : State) : (setMark n m s).lastServed = s.lastServed := rfl
@[simp] theorem setMark_tetherQueue (n : Nat) (m : Mark) (s : State) : (setMark n m s).tetherQueue = s.tetherQueue := rfl
@[simp] theorem setMark_serviceQueue (n : Nat) (m : Mark) (s : State) : (setMark n m s).serviceQueue = s.serviceQueue := rfl
@[simp] theorem setMark_linkTether (n : Nat) (m : Mark) (s : State) : (setMark n m s).linkTether = s.linkTether := rfl
@[simp] theorem setMark_linkService (n : Nat) (m : Mark) (s : State) : (setMark n m s).linkService = s.linkService := rfl
@[simp] theorem setMark_restartPending (n : Nat) (m : Mark) (s : State) : (setMark n m s).restartPending = s.restartPending := rfl
@[simp] theorem setMark_tether (n : Nat) (m : Mark) (s : State) : (setMark n m s).tether = s.tether := rfl
@[simp] theorem setMark_service (n : Nat) (m : Mark) (s : State) : (setMark n m s).service = s.service := rfl
@[simp] theorem setMark_capture (n : Nat) (m : Mark) (s : State) : (setMark n m s).capture = s.capture := rfl
@[simp] theorem setMark_slots (n : Nat) (m : Mark) (s : State) : (setMark n m s).slots = s.slots := rfl
@[simp] theorem setMark_held (n : Nat) (m : Mark) (s : State) : (setMark n m s).held = s.held := rfl
@[simp] theorem setMark_nextPin (n : Nat) (m : Mark) (s : State) : (setMark n m s).nextPin = s.nextPin := rfl
@[simp] theorem setMark_frameStore (n : Nat) (m : Mark) (s : State) : (setMark n m s).frameStore = s.frameStore := rfl
@[simp] theorem setMark_badWords (n : Nat) (m : Mark) (s : State) : (setMark n m s).badWords = s.badWords := rfl
@[simp] theorem setMark_cond (n : Nat) (m : Mark) (s : State) : (setMark n m s).cond = s.cond := rfl
@[simp] theorem setMark_cal (n : Nat) (m : Mark) (s : State) : (setMark n m s).cal = s.cal := rfl
@[simp] theorem setMark_viewA (n : Nat) (m : Mark) (s : State) : (setMark n m s).viewA = s.viewA := rfl
@[simp] theorem setMark_viewB (n : Nat) (m : Mark) (s : State) : (setMark n m s).viewB = s.viewB := rfl
@[simp] theorem setMark_warp (n : Nat) (m : Mark) (s : State) : (setMark n m s).warp = s.warp := rfl
@[simp] theorem setMark_ring (n : Nat) (m : Mark) (s : State) : (setMark n m s).ring = s.ring := rfl
@[simp] theorem setMark_sup (n : Nat) (m : Mark) (s : State) : (setMark n m s).sup = s.sup := rfl
@[simp] theorem setMark_head (n : Nat) (m : Mark) (s : State) : (setMark n m s).head = s.head := rfl
@[simp] theorem setMark_faults (n : Nat) (m : Mark) (s : State) : (setMark n m s).faults = s.faults := rfl
@[simp] theorem setMark_store (n : Nat) (m : Mark) (s : State) : (setMark n m s).store = s.store := rfl
@[simp] theorem setMark_freeCount (n : Nat) (m : Mark) (s : State) : (setMark n m s).freeCount = s.freeCount := rfl

/-! ### What the updates write -/

@[simp] theorem State.view_setView (s : State) (v : View) (x : ViewSlot) : (s.setView v x).view v = x := by cases v <;> rfl
@[simp] theorem State.view_setView_other (s : State) (v w : View) (x : ViewSlot) (h : w ≠ v) :
    (s.setView v x).view w = s.view w := by
  cases v <;> cases w <;> first | rfl | exact absurd rfl h
@[simp] theorem State.queueOf_setQueue (s : State) (p : Port) (l : List Waiting) : (s.setQueue p l).queueOf p = l := by
  cases p <;> rfl
@[simp] theorem State.queueOf_setQueue_other (s : State) (p : Port) (l : List Waiting) :
    (s.setQueue p l).queueOf p.other = s.queueOf p.other := by cases p <;> rfl
@[simp] theorem State.mapLink_setMapLink (s : State) (p : Port) (l : Option MapLink) : (s.setMapLink p l).mapLink p = l := by
  cases p <;> rfl
@[simp] theorem State.mapLink_setMapLink_other (s : State) (p : Port) (l : Option MapLink) :
    (s.setMapLink p l).mapLink p.other = s.mapLink p.other := by cases p <;> rfl
@[simp] theorem State.skip_setSkip (s : State) (v : View) (n : Nat) : (s.setSkip v n).skip v = n := by cases v <;> rfl
@[simp] theorem State.queueOf_taken (s : State) (p : Port) : (s.taken p).queueOf p = (s.queueOf p).drop 1 := by cases p <;> rfl
@[simp] theorem State.taken_lastServed (s : State) (p : Port) : (s.taken p).lastServed = p := rfl
@[simp] theorem State.slot_modifySlot_other (n m : Nat) (f : FrameSlot → FrameSlot) (s : State) (h : n ≠ m) :
    (modifySlot n f s).slot m = s.slot m := by
  simp [modifySlot, State.slot, List.getD_eq_getElem?_getD, h]

end Sys2Proof.Machine
end

