-- ==== Sys2Proof/Laws/Effects.lean ====
section
/-! SUPPORT. For each shared operation one lemma that says which blocks it can change: every other field of the result is the
field it was given. -/

namespace Sys2Proof.Machine

/-! ### Requests and events -/

/-- A request command in its three cases: taken and served, waiting, or ill formed. -/
theorem asRequest_cases (q : Req) (i : Instr) (serve : State → State) (s : State) :
    (i.wellFormed = true ∧ s.takes q i = true ∧
      asRequest q i serve s = .next (serveRequest q i serve (s.taken q.port))) ∨
    (i.wellFormed = true ∧ s.takes q i = false ∧ asRequest q i serve s = .next (requestWaits q i s)) ∨
    (i.wellFormed = false ∧ asRequest q i serve s = .refused .illFormed) := by
  unfold asRequest
  cases i.wellFormed <;> cases s.takes q i <;> simp

/-- An event command in its two cases. -/
theorem asEvent_cases (i : Instr) (effect : State → State) (s : State) :
    (i.wellFormed = true ∧ asEvent i effect s = .next (effect s)) ∨
    (i.wellFormed = false ∧ asEvent i effect s = .refused .illFormed) := by
  unfold asEvent
  cases i.wellFormed <;> simp

/-- A request that is served outside BOOT gets its owner's answer. -/
theorem ownedRequest_served (q : Req) (i : Instr) (owner : State → Answer) (s : State) (hw : i.wellFormed = true)
    (ht : s.takes q i = true) (hb : s.mode ≠ .boot) :
    ownedRequest q i owner s = .next (answer q i (owner (s.taken q.port))) := by
  simp [ownedRequest, asRequest, hw, ht, serveRequest, hb]

/-- A request whose reply stands before its effects' records, served outside BOOT. -/
theorem recordingRequest_served (q : Req) (i : Instr) (owner : State → Answer) (s : State) (hw : i.wellFormed = true)
    (ht : s.takes q i = true) (hb : s.mode ≠ .boot) :
    recordingRequest q i owner s = .next (answerFirst q i owner (s.taken q.port)) := by
  simp [recordingRequest, asRequest, hw, ht, serveRequest, hb]

/-- Where the owner answers with a reply, what is served is its effect on the state in which that reply is queued. -/
theorem answerFirst_reply (q : Req) (i : Instr) (owner : State → Answer) (s : State) (c : Code) (data : List Byte)
    (h : (owner s).reply = some (c, data)) :
    answerFirst q i owner s = (owner (pushReply q.port ⟨replyKindOf i, q.tag, u8 c.value ++ data⟩ s)).state := by
  simp [answerFirst, h]

/-- What a served request's answer adds to the owner's state: at most one reply. -/
theorem answer_effect (q : Req) (i : Instr) (a : Answer) :
    ∃ t u, answer q i a = { a.state with tether := t, service := u } := by
  unfold answer
  split
  · exact ⟨_, _, rfl⟩
  · cases q with
    | mk p tag => cases p <;> exact ⟨_, _, rfl⟩

theorem countFramingError_effect (p : Port) (s : State) :
    ∃ t u, countFramingError p s = { s with tether := t, service := u } := by
  cases p <;> exact ⟨_, _, rfl⟩

theorem arrive_effect (p : Port) (kind tag : Nat) (w : Waiting) (s : State) :
    ∃ a b t u, arrive p kind tag w s = { s with tetherQueue := a, serviceQueue := b, tether := t, service := u } := by
  unfold arrive
  split
  · cases p <;> exact ⟨_, _, _, _, rfl⟩
  · generalize (if s.delayed p then _ else _ : Nat) = n
    split <;> cases p <;> exact ⟨_, _, _, _, rfl⟩

/-! ### Slots and faults -/

theorem freeIfDone_effect (n : Nat) (s : State) : ∃ a b, freeIfDone n s = { s with slots := a, held := b } := by
  unfold freeIfDone
  split <;> exact ⟨_, _, rfl⟩

theorem releaseSlotUse_effect (n : Nat) (s : State) : ∃ a b, releaseSlotUse n s = { s with slots := a, held := b } := by
  obtain ⟨a, b, h⟩ := freeIfDone_effect n (modifySlot n (fun x => { x with count := x.count - 1 }) s)
  exact ⟨a, b, h⟩

theorem raise_effect (k : FaultKind) (s : State) : ∃ f t, raise k s = { s with faults := f, tether := t } := by
  unfold raise
  split
  · exact ⟨_, _, rfl⟩
  · dsimp only
    split <;> exact ⟨_, _, rfl⟩

theorem raiseTimes_effect (k : FaultKind) (n : Nat) :
    ∀ s : State, ∃ f t, raiseTimes k n s = { s with faults := f, tether := t } := by
  induction n with
  | zero => exact fun s => ⟨_, _, rfl⟩
  | succ n ih =>
    intro s
    obtain ⟨f, t, h⟩ := raise_effect k s
    obtain ⟨f', t', h'⟩ := ih (raise k s)
    exact ⟨f', t', by rw [raiseTimes, h', h]⟩

/-! ### Acquisitions and the ring -/

theorem endAcquisition_effect (o : AcqOutcome) (s : State) :
    ∃ c r t, endAcquisition o s =
      { s with cal := { s.cal with acq := c }, ring := { s.ring with flatHold := r }, tether := t } := by
  unfold endAcquisition
  split
  · rename_i h
    exact ⟨s.cal.acq, _, _, rfl⟩
  · exact ⟨_, _, _, rfl⟩

theorem setRingState_effect (x : RingState) (s : State) :
    ∃ r u c t, setRingState x s = { s with ring := r, sup := u, cal := c, tether := t } := by
  unfold setRingState
  split
  · exact ⟨_, _, _, _, rfl⟩
  · dsimp only
    split
    · obtain ⟨c, r, t, h⟩ := endAcquisition_effect .failed { s with ring.state := x, sup.ring := x }
      exact ⟨_, _, _, _, h⟩
    · exact ⟨_, _, _, _, rfl⟩

theorem requestSupplyWrite_effect (v : Bool) (s : State) : ∃ h, requestSupplyWrite v s = { s with head := h } := by
  unfold requestSupplyWrite
  split
  · exact ⟨_, rfl⟩
  · split <;> first | exact ⟨_, rfl⟩ | (split <;> exact ⟨_, rfl⟩)

theorem setDemand_effect (v : Bool) (s : State) : ∃ r h, setDemand v s = { s with ring := r, head := h } := by
  unfold setDemand
  split
  · exact ⟨_, _, rfl⟩
  · obtain ⟨h, e⟩ := requestSupplyWrite_effect v { s with ring.demand := v }
    exact ⟨_, _, e⟩

theorem lockOff_effect (cause : LockCause) (s : State) :
    ∃ r u c t h, lockOff cause s = { s with ring := r, sup := u, cal := c, tether := t, head := h } := by
  unfold lockOff
  obtain ⟨r, u, c, t, h⟩ :=
    setRingState_effect .lockedOff { s with ring.codes := zeroCodes, ring.causes := s.ring.causes.join cause }
  rw [h]
  obtain ⟨r', h', e⟩ := setDemand_effect false { s with ring := r, sup := u, cal := c, tether := t }
  exact ⟨_, _, _, _, _, e⟩

theorem headLock_effect (cause : LockCause) (s : State) :
    ∃ r u c t h, headLock cause s = { s with ring := r, sup := u, cal := c, tether := t, head := h } := by
  unfold headLock
  split
  · exact ⟨_, _, _, _, _, rfl⟩
  · exact ⟨_, _, _, _, _, rfl⟩
  · exact lockOff_effect cause s

theorem ringDimTrip_effect (s : State) :
    ∃ r u c t, ringDimTrip s = { s with ring := r, sup := u, cal := c, tether := t } := by
  obtain ⟨r, u, c, t, h⟩ :=
    setRingState_effect .dim { s with ring.trip := .one, ring.codes := s.ring.dimCodes }
  exact ⟨r, u, c, t, h⟩

theorem ringOffTrip_effect (s : State) :
    ∃ r u c t h, ringOffTrip s = { s with ring := r, sup := u, cal := c, tether := t, head := h } := by
  obtain ⟨r, u, c, t, h, e⟩ := lockOff_effect .offTrip { s with ring.trip := .two }
  exact ⟨r, u, c, t, h, e⟩

theorem settleCodes_effect (l : List Nat) (s : State) : ∃ d, settleCodes l s = { s with ring := { s.ring with codes := d } } :=
  ⟨_, rfl⟩

theorem openReport_effect (k : Nat) (s : State) : ∃ r, openReport k s = { s with ring := r } := ⟨_, rfl⟩

theorem bandReport_effect (b : Band) (s : State) : ∃ r, bandReport b s = { s with ring := r } := ⟨_, rfl⟩

theorem lightRing_effect (s : State) :
    ∃ r u c t, lightRing s = { s with ring := r, sup := u, cal := c, tether := t } := by
  obtain ⟨r, u, c, t, h⟩ := setRingState_effect .lit s
  unfold lightRing
  rw [h]
  exact ⟨_, _, _, _, rfl⟩

theorem presenceReport_effect (b : Bool) (s : State) :
    ∃ r u c t, presenceReport b s = { s with ring := r, sup := u, cal := c, tether := t } := by
  unfold presenceReport
  dsimp only
  split
  · obtain ⟨r, u, c, t, h⟩ := setRingState_effect .absent
      { s with ring := { s.ring with presence := _, presenceReported := true, codes := zeroCodes } }
    exact ⟨r, u, c, t, h⟩
  · obtain ⟨r, u, c, t, h⟩ := setRingState_effect .absent
      { s with ring := { s.ring with presence := _, presenceReported := true, codes := zeroCodes } }
    exact ⟨r, u, c, t, h⟩
  · obtain ⟨r, u, c, t, h⟩ := lightRing_effect { s with ring := { s.ring with presence := _, presenceReported := true } }
    exact ⟨r, u, c, t, h⟩
  · obtain ⟨r, u, c, t, h⟩ := setRingState_effect .dim
      { s with ring := { s.ring with presence := _, presenceReported := true, codes := s.ring.dimCodes } }
    exact ⟨r, u, c, t, h⟩
  · exact ⟨_, _, _, _, rfl⟩

/-! ### Views and buffers -/

theorem setView_effect (v : View) (x : ViewSlot) (s : State) : ∃ a b, s.setView v x = { s with viewA := a, viewB := b } := by
  cases v <;> exact ⟨_, _, rfl⟩

theorem modifyBuffer_effect (v : View) (n : Nat) (f : MeshBuffer → MeshBuffer) (s : State) :
    ∃ a b, modifyBuffer v n f s = { s with viewA := a, viewB := b } := setView_effect v _ s

theorem setPendingChange_effect (v : View) (p : PendingChange) (s : State) :
    ∃ a b, setPendingChange v p s = { s with viewA := a, viewB := b } := setView_effect v _ s

theorem startBuild_effect (v : View) (n sel : Nat) (s : State) :
    ∃ a b, startBuild v n sel s = { s with viewA := a, viewB := b } := by
  unfold startBuild
  obtain ⟨a, b, h⟩ := modifyBuffer_effect v n
    (fun m => { m with state := .building, selector := some sel, nodeCount := meshNodeCount (s.profile sel), uses := 0 }) s
  rw [h]
  obtain ⟨a', b', h'⟩ := setPendingChange_effect v (.profile sel .building) { s with viewA := a, viewB := b }
  exact ⟨_, _, h'⟩

theorem requestBuild_effect (v : View) (sel : Nat) (s : State) :
    ∃ a b, requestBuild v sel s = { s with viewA := a, viewB := b } := by
  unfold requestBuild
  split
  · exact startBuild_effect v _ sel s
  · exact setPendingChange_effect v _ s

theorem releaseBuffer_effect (v : View) (n : Nat) (s : State) :
    ∃ a b, releaseBuffer v n s = { s with viewA := a, viewB := b } := by
  unfold releaseBuffer
  obtain ⟨a, b, h⟩ := modifyBuffer_effect v n MeshBuffer.freed s
  rw [h]
  split
  · obtain ⟨a', b', h'⟩ := startBuild_effect v n _ { s with viewA := a, viewB := b }
    exact ⟨a', b', h'⟩
  · exact ⟨_, _, rfl⟩

theorem retireBuffer_effect (v : View) (n : Nat) (s : State) :
    ∃ a b, retireBuffer v n s = { s with viewA := a, viewB := b } := by
  unfold retireBuffer
  split
  · exact releaseBuffer_effect v n s
  · exact modifyBuffer_effect v n _ s

theorem addUse_effect (v : View) (n : Nat) (s : State) : ∃ a b, addUse v n s = { s with viewA := a, viewB := b } :=
  modifyBuffer_effect v n _ s

theorem dropUse_effect (v : View) (n : Nat) (s : State) : ∃ a b, dropUse v n s = { s with viewA := a, viewB := b } := by
  unfold dropUse
  split
  · exact releaseBuffer_effect v n s
  · exact modifyBuffer_effect v n _ s

theorem cancelPending_effect (v : View) (s : State) :
    ∃ p a b, cancelPending v s = { s with table := p, viewA := a, viewB := b } := by
  unfold cancelPending
  split
  · exact ⟨_, _, _, rfl⟩
  · obtain ⟨a, b, h⟩ := setPendingChange_effect v .absent s
    exact ⟨_, a, b, h⟩
  · cases v <;> exact ⟨_, _, _, rfl⟩

theorem retireActive_effect (v : View) (old : Nat) (n : Option Nat) (s : State) :
    ∃ p a b, retireActive v old n s = { s with table := p, viewA := a, viewB := b } := by
  unfold retireActive
  split
  · exact ⟨_, _, _, rfl⟩
  · split
    · obtain ⟨a, b, h⟩ := retireBuffer_effect v _ (setMark old .none s)
      exact ⟨_, a, b, h⟩
    · exact ⟨_, _, _, rfl⟩

theorem viewReady_effect (v : View) (sel : Nat) (s : State) : ∃ t, viewReady v sel s = { s with tether := t } := ⟨_, rfl⟩

theorem adopt_effect (v : View) (sel : Nat) (s : State) :
    ∃ p a b t, adopt v sel s = { s with table := p, viewA := a, viewB := b, tether := t } := by
  unfold adopt
  dsimp only
  obtain ⟨a, b, h⟩ := setView_effect v
    { s.view v with active := sel, activeBuffer := some (s.view v).readyBuffer, pending := .absent } s
  rw [h]
  obtain ⟨a', b', h'⟩ := modifyBuffer_effect v (s.view v).readyBuffer (fun m => { m with state := .active })
    { s with viewA := a, viewB := b }
  rw [h']
  obtain ⟨p, a2, b2, h2⟩ := retireActive_effect v (s.view v).active (s.view v).activeBuffer
    (setMark sel (activeMark v) { s with viewA := a', viewB := b' })
  rw [h2]
  exact ⟨_, _, _, _, rfl⟩

theorem makeNull_effect (v : View) (s : State) :
    ∃ p a b t, makeNull v s = { s with table := p, viewA := a, viewB := b, tether := t } := by
  unfold makeNull
  dsimp only
  obtain ⟨a, b, h⟩ := setView_effect v { s.view v with active := 0, activeBuffer := none, pending := .absent } s
  rw [h]
  obtain ⟨p, a2, b2, h2⟩ := retireActive_effect v (s.view v).active (s.view v).activeBuffer { s with viewA := a, viewB := b }
  rw [h2]
  exact ⟨_, _, _, _, rfl⟩

theorem actOnPending_effect (v : View) (s : State) :
    ∃ p a b t, actOnPending v s = { s with table := p, viewA := a, viewB := b, tether := t } := by
  unfold actOnPending
  split
  · exact adopt_effect v _ s
  · exact makeNull_effect v s
  · exact ⟨_, _, _, _, rfl⟩

theorem adoptViews_effect (s : State) :
    ∃ p a b t, adoptViews s = { s with table := p, viewA := a, viewB := b, tether := t } := by
  obtain ⟨p, a, b, t, h⟩ := actOnPending_effect .a s
  obtain ⟨p', a', b', t', h'⟩ := actOnPending_effect .b { s with table := p, viewA := a, viewB := b, tether := t }
  exact ⟨_, _, _, _, by unfold adoptViews; rw [h, h']⟩

theorem addFrameUses_effect (l : List ViewNote) :
    ∀ s : State, ∃ a b, addFrameUses l s = { s with viewA := a, viewB := b } := by
  induction l with
  | nil => exact fun s => ⟨_, _, rfl⟩
  | cons n l ih =>
    intro s
    obtain ⟨a, b, h⟩ := addUse_effect n.view n.buffer s
    obtain ⟨a', b', h'⟩ := ih { s with viewA := a, viewB := b }
    exact ⟨a', b', by simpa [addFrameUses, h] using h'⟩

theorem dropFrameUses_effect (l : List ViewNote) :
    ∀ s : State, ∃ a b, dropFrameUses l s = { s with viewA := a, viewB := b } := by
  induction l with
  | nil => exact fun s => ⟨_, _, rfl⟩
  | cons n l ih =>
    intro s
    obtain ⟨a, b, h⟩ := dropUse_effect n.view n.buffer s
    obtain ⟨a', b', h'⟩ := ih { s with viewA := a, viewB := b }
    exact ⟨a', b', by simpa [dropFrameUses, h] using h'⟩

/-! ### The Warp Engine -/

theorem countSkip_effect (v : View) (s : State) : ∃ c, countSkip v s = { s with capture := c } := by
  cases v <;> exact ⟨_, rfl⟩

theorem countSkips_effect (l : List ViewNote) : ∀ s : State, ∃ c, countSkips l s = { s with capture := c } := by
  induction l with
  | nil => exact fun s => ⟨_, rfl⟩
  | cons n l ih =>
    intro s
    obtain ⟨c, h⟩ := countSkip_effect n.view s
    obtain ⟨c', h'⟩ := ih { s with capture := c }
    exact ⟨c', by simpa [countSkips, h] using h'⟩

theorem entryEnd_effect (e : WarpEntry) (s : State) :
    ∃ x y a b, entryEnd e s = { s with slots := x, held := y, viewA := a, viewB := b } := by
  obtain ⟨x, y, h⟩ := releaseSlotUse_effect e.slot s
  obtain ⟨a, b, h'⟩ := dropUse_effect e.view e.buffer { s with slots := x, held := y }
  exact ⟨x, y, a, b, by unfold entryEnd; rw [h, h']⟩

theorem tileDone_effect (s : State) :
    ∃ w x y a b, tileDone s = { s with warp := w, slots := x, held := y, viewA := a, viewB := b } := by
  unfold tileDone
  split
  · exact ⟨_, _, _, _, _, rfl⟩
  · rename_i e rest _
    split
    · exact ⟨_, _, _, _, _, rfl⟩
    · obtain ⟨x, y, a, b, h⟩ := entryEnd_effect e { s with
        warp.queue := rest
        warp.engine := .closing
        warp.waiting := .nothing
        warp.corrupt := false
        warp.owed := some ⟨e.view, e.tag, true, s.warp.placed⟩ }
      exact ⟨_, x, y, a, b, h⟩

theorem placeBegin_effect (s : State) : ∃ w t c, placeBegin s = { s with warp := w, tether := t, capture := c } := by
  unfold placeBegin
  split
  · rename_i e _ _ _ _
    split
    · cases e.view <;> exact ⟨_, _, _, rfl⟩
    · exact ⟨_, _, _, rfl⟩
  · exact ⟨_, _, _, rfl⟩

theorem placeTile_effect (s : State) :
    ∃ w t x y a b, placeTile s = { s with warp := w, tether := t, slots := x, held := y, viewA := a, viewB := b } := by
  unfold placeTile
  split
  · rename_i r _ _
    split
    · obtain ⟨w, x, y, a, b, h⟩ := tileDone_effect
        (pushImage r { s with warp.placed := s.warp.placed + 1, warp.waiting := .nothing })
      exact ⟨_, _, _, _, _, _, h⟩
    · exact ⟨_, _, _, _, _, _, rfl⟩
  · exact ⟨_, _, _, _, _, _, rfl⟩

theorem placeEnd_effect (s : State) : ∃ w t, placeEnd s = { s with warp := w, tether := t } := by
  unfold placeEnd
  split
  · split
    · exact ⟨_, _, rfl⟩
    · split <;> exact ⟨_, _, rfl⟩
  · exact ⟨_, _, rfl⟩

theorem startWarp_effect (s : State) : ∃ w c, startWarp s = { s with warp := w, capture := c } := by
  unfold startWarp
  split
  · rename_i e _ _ _
    split
    · exact ⟨_, _, rfl⟩
    · dsimp only
      split
      · obtain ⟨c, h⟩ := countSkip_effect e.view
          { s with warp.engine := .running, warp.waiting := .nothing, warp.next := 0, warp.placed := 0,
                   warp.corrupt := false, warp.discarding := true }
        exact ⟨_, c, h⟩
      · exact ⟨_, _, rfl⟩
  · exact ⟨_, _, rfl⟩

/-- What the Warp Engine can change without forming a tile. -/
theorem pumpWarp_effect (s : State) :
    ∃ w t c x y a b, pumpWarp s =
      { s with warp := w, tether := t, capture := c, slots := x, held := y, viewA := a, viewB := b } := by
  unfold pumpWarp
  obtain ⟨w1, t1, c1, h1⟩ := placeBegin_effect s
  rw [h1]
  obtain ⟨w2, t2, x, y, a, b, h2⟩ := placeTile_effect { s with warp := w1, tether := t1, capture := c1 }
  rw [h2]
  obtain ⟨w3, t3, h3⟩ := placeEnd_effect
    { s with warp := w2, tether := t2, capture := c1, slots := x, held := y, viewA := a, viewB := b }
  rw [h3]
  obtain ⟨w4, c4, h4⟩ := startWarp_effect
    { s with warp := w3, tether := t3, capture := c1, slots := x, held := y, viewA := a, viewB := b }
  rw [h4]
  obtain ⟨w5, t5, c5, h5⟩ := placeBegin_effect
    { s with warp := w4, tether := t3, capture := c4, slots := x, held := y, viewA := a, viewB := b }
  exact ⟨_, _, _, _, _, _, _, h5⟩

/-! ### Maps and deliveries -/

theorem writeMap_effect (m : MapName) (l : List Nat) (s : State) :
    ∃ c d, writeMap m l s = { s with cal := c, cond := d } := by
  unfold writeMap
  cases m <;> dsimp only <;> split <;> exact ⟨_, _, rfl⟩

theorem breakLinks_effect (f : MapLink → Bool) (s : State) :
    ∃ a b, breakLinks f s = { s with linkTether := a, linkService := b } := ⟨_, _, rfl⟩

theorem writeRegion_effect (r : MapLink) (l : List Nat) (s : State) :
    ∃ c d a b, writeRegion r l s = { s with cal := c, cond := d, linkTether := a, linkService := b } := by
  unfold writeRegion
  obtain ⟨c, d, h⟩ := writeMap_effect r.map (setEntries (s.workingMap r.map) (r.indices.zip (l.map (min r.map.top)))) s
  rw [h]
  exact ⟨_, _, _, _, rfl⟩

theorem darkRefresh_effect (l : List Nat) (s : State) :
    ∃ c d a b, darkRefresh l s = { s with cal := c, cond := d, linkTether := a, linkService := b } := by
  unfold darkRefresh
  dsimp only
  split
  · obtain ⟨c, d, h⟩ := writeMap_effect .dark (refreshedMap s.cal.shift s.cal.dark l) s
    rw [h]
    exact ⟨_, _, _, _, rfl⟩
  · exact ⟨_, _, _, _, rfl⟩

theorem deliver_effect (m : Option (AcqKind × Nat)) (l : List Nat) (s : State) :
    ∃ c d a b r t, deliver m l s =
      { s with cal := c, cond := d, linkTether := a, linkService := b, ring := r, tether := t } := by
  unfold deliver
  split
  · exact ⟨_, _, _, _, _, _, rfl⟩
  · rename_i x _
    split
    · split
      · exact ⟨_, _, _, _, _, _, rfl⟩
      · obtain ⟨c, d, h⟩ := writeMap_effect x.map (x.count l).result { s with cal.acq := some (x.count l) }
        rw [h]
        obtain ⟨c', r, t, h'⟩ := endAcquisition_effect .complete
          (breakLinks (fun l => l.map == x.map) { s with cal := c, cond := d })
        exact ⟨_, _, _, _, _, _, h'⟩
    · exact ⟨_, _, _, _, _, _, rfl⟩

/-! ### Supervision and balance -/

theorem balanceHandOver_effect (st : SectorStats) (s : State) :
    ∃ r c, balanceHandOver st s = { s with ring := r, capture := c } := by
  unfold balanceHandOver
  split
  · exact ⟨_, _, rfl⟩
  · split
    · exact ⟨_, _, rfl⟩
    · split <;> exact ⟨_, _, rfl⟩

theorem reportOpen_effect (k : Nat) (s : State) :
    ∃ r f t, reportOpen s k = { s with ring := r, faults := f, tether := t } := by
  obtain ⟨r, h⟩ := openReport_effect k s
  obtain ⟨f, t, h'⟩ := raise_effect .channelOpen { s with ring := r }
  exact ⟨r, f, t, by unfold reportOpen; rw [h, h']⟩

theorem reportOpens_effect (l : List Nat) :
    ∀ s : State, ∃ r f t, l.foldl reportOpen s = { s with ring := r, faults := f, tether := t } := by
  induction l with
  | nil => exact fun s => ⟨_, _, _, rfl⟩
  | cons k l ih =>
    intro s
    obtain ⟨r, f, t, h⟩ := reportOpen_effect k s
    obtain ⟨r', f', t', h'⟩ := ih { s with ring := r, faults := f, tether := t }
    exact ⟨r', f', t', by simpa [h] using h'⟩

end Sys2Proof.Machine
end

