-- ==== Sys2Proof/Laws/Memory.lean ====
section
/-! SUPPORT. The laws of the addressed stores: what a block write changes when it is read back, and that it keeps the
canonical form. -/

namespace Sys2Proof.Machine

/-- A filter on the address keeps the value at an address it admits and drops it at any other. -/
theorem Memory.lookup_filter_key {α : Type} (p : Nat → Bool) (m : List (Nat × α)) (a : Nat) :
    (m.filter fun e => p e.1).lookup a = if p a then m.lookup a else none := by
  induction m with
  | nil => simp
  | cons e m ih =>
    obtain ⟨k, v⟩ := e
    by_cases h : a = k
    · subst h
      cases hp : p a
      · simp only [hp, List.filter_cons]
        simpa [hp] using ih
      · simp [hp]
    · have h' : (a == k) = false := by simp [h]
      cases hp : p k <;> simp [hp, List.lookup_cons, h', ih]

/-- The entries a block write adds read back as the block. -/
theorem Memory.read_block {α : Type} [DecidableEq α] (d : α) (vals : List α) (base a : Nat) :
    Memory.read d (((vals.zipIdx base).map fun p => (p.2, p.1)).filter fun e => decide (e.2 ≠ d)) a =
      if base ≤ a then vals.getD (a - base) d else d := by
  induction vals generalizing base with
  | nil => simp [Memory.read]
  | cons v vals ih =>
    have hih := ih (base + 1)
    simp only [Memory.read] at hih ⊢
    by_cases hab : a = base
    · subst hab
      by_cases hv : v = d
      · have hn : ¬ a + 1 ≤ a := by omega
        simp only [hn, if_false] at hih
        simpa [hv] using hih
      · simp [hv]
    · have h' : (a == base) = false := by simp [hab]
      have : (((v :: vals).zipIdx base).map fun p => (p.2, p.1)).filter (fun e => decide (e.2 ≠ d)) =
          (if v = d then [] else [(base, v)]) ++
            ((vals.zipIdx (base + 1)).map fun p => (p.2, p.1)).filter (fun e => decide (e.2 ≠ d)) := by
        by_cases hv : v = d <;> simp [hv]
      rw [this]
      have hl : ((if v = d then [] else [(base, v)] : List (Nat × α))).lookup a = none := by
        split <;> simp [List.lookup_cons, h']
      rw [List.lookup_append, hl, Option.none_or, hih]
      by_cases hle : base ≤ a
      · have : base + 1 ≤ a := by omega
        obtain ⟨k, rfl⟩ : ∃ k, a = base + 1 + k := ⟨a - (base + 1), by omega⟩
        have h1 : base + 1 + k - base = k + 1 := by omega
        have h2 : base + 1 + k - (base + 1) = k := by omega
        simp [hle, h1]
      · have : ¬ base + 1 ≤ a := by omega
        simp [hle, this]

/-- A block write is read back inside its block, and leaves every other address. -/
theorem Memory.read_writeBlock {α : Type} [DecidableEq α] (d : α) (m : List (Nat × α)) (base : Nat) (vals : List α) (a : Nat) :
    Memory.read d (Memory.writeBlock d m base vals) a =
      if base ≤ a ∧ a < base + vals.length then vals.getD (a - base) d else Memory.read d m a := by
  have h1 := Memory.lookup_filter_key (fun k => decide (k < base)) m a
  have h2 := Memory.lookup_filter_key (fun k => decide (base + vals.length ≤ k)) m a
  have h3 := Memory.read_block d vals base a
  simp only [decide_eq_true_eq] at h1 h2
  simp only [Memory.read, Memory.writeBlock, List.lookup_append, h1, h2] at h3 ⊢
  by_cases hlo : a < base
  · have : ¬ base ≤ a := by omega
    have hhi : ¬ base + vals.length ≤ a := by omega
    simp only [this, if_false] at h3
    simp only [hlo, hhi, this, if_true, if_false, Option.or_none, false_and]
    cases hm : m.lookup a with
    | some x => simp
    | none => simpa using h3
  · have hle : base ≤ a := by omega
    simp only [hle, if_true] at h3
    by_cases hhi : base + vals.length ≤ a
    · have hn : ¬ a < base + vals.length := by omega
      have hg : vals.getD (a - base) d = d := by
        rw [List.getD_eq_default]; omega
      rw [hg] at h3
      have hnone : (((vals.zipIdx base).map fun p => (p.2, p.1)).filter fun e => decide (e.2 ≠ d)).lookup a = none := by
        rw [List.lookup_eq_none_iff]
        intro p hp
        simp only [List.mem_filter, List.mem_map] at hp
        obtain ⟨⟨q, hq, rfl⟩, -⟩ := hp
        have := List.snd_lt_of_mem_zipIdx hq
        simp; omega
      simp only [hnone, hlo, hhi, hn, if_false, if_true, and_false, Option.or_none, Option.none_or]
    · have hn : a < base + vals.length := by omega
      simp only [hlo, hhi, hn, hle, if_true, if_false, Option.none_or, Option.or_none, and_self]
      exact h3

/-- A block write keeps the canonical form. -/
theorem Memory.writeBlock_wf {α : Type} [DecidableEq α] (d : α) (m : List (Nat × α)) (base : Nat) (vals : List α)
    (h : Memory.Wf d m) : Memory.Wf d (Memory.writeBlock d m base vals) := by
  obtain ⟨hp, hd⟩ := h
  have hmem : ∀ e ∈ ((vals.zipIdx base).map fun p => (p.2, p.1)).filter (fun e => decide (e.2 ≠ d)),
      base ≤ e.1 ∧ e.1 < base + vals.length ∧ e.2 ≠ d := by
    intro e he
    simp only [List.mem_filter, List.mem_map, decide_eq_true_eq] at he
    obtain ⟨⟨q, hq, rfl⟩, hne⟩ := he
    exact ⟨List.le_snd_of_mem_zipIdx hq, by have := List.snd_lt_of_mem_zipIdx hq; simp; omega, hne⟩
  have hblock : ∀ (l : List α) (b : Nat), ((l.zipIdx b).map fun p => (p.2, p.1)).Pairwise fun x y => x.1 < y.1 := by
    intro l
    induction l with
    | nil => simp
    | cons v l ih =>
      intro b
      simp only [List.zipIdx_cons, List.map_cons, List.pairwise_cons]
      refine ⟨fun e he => ?_, ih (b + 1)⟩
      simp only [List.mem_map] at he
      obtain ⟨q, hq, rfl⟩ := he
      have := List.le_snd_of_mem_zipIdx hq
      simp; omega
  refine ⟨?_, ?_⟩
  · simp only [Memory.writeBlock, List.pairwise_append, List.mem_append]
    refine ⟨⟨hp.filter _, (hblock vals base).filter _, fun x hx y hy => ?_⟩, hp.filter _, fun x hx y hy => ?_⟩
    · have := (hmem y hy).1
      simp at hx; omega
    · simp at hy
      rcases hx with hx | hx
      · simp at hx; omega
      · have := (hmem x hx).2.1; omega
  · intro e he
    simp only [Memory.writeBlock, List.mem_append] at he
    rcases he with (he | he) | he
    · exact hd e (List.mem_of_mem_filter he)
    · exact (hmem e he).2.2
    · exact hd e (List.mem_of_mem_filter he)

end Sys2Proof.Machine
end

