-- ==== Sys2Proof/Laws/Steps.lean ====
section
/-! SUPPORT. How a property of states passes through a command and through a step: what an invariant's proof owes for each
command and for the Dispatcher. -/

namespace Sys2Proof.Machine

/-- An event command keeps what its effect keeps. -/
theorem asEvent_keeps {P : State → Prop} {i : Instr} {effect : State → State} {s t : State} (hs : P s)
    (heffect : i.wellFormed = true → P s → P (effect s)) (h : asEvent i effect s = .next t) : P t := by
  obtain ⟨hw, e⟩ | ⟨-, e⟩ := asEvent_cases i effect s
  · rw [e] at h
    cases h
    exact heffect hw hs
  · rw [e] at h
    cases h

/-- A request command keeps what its serving, from the state in which it is taken, and its waiting keep. -/
theorem asRequest_keeps {P : State → Prop} {q : Req} {i : Instr} {serve : State → State} {s t : State} (hs : P s)
    (hserve : i.wellFormed = true → s.takes q i = true → P s → P (serveRequest q i serve (s.taken q.port)))
    (hwaits : i.wellFormed = true → P s → P (requestWaits q i s)) (h : asRequest q i serve s = .next t) : P t := by
  obtain ⟨hw, ht, e⟩ | ⟨hw, -, e⟩ | ⟨-, e⟩ := asRequest_cases q i serve s
  · rw [e] at h
    cases h
    exact hserve hw ht hs
  · rw [e] at h
    cases h
    exact hwaits hw hs
  · rw [e] at h
    cases h

/-- A request whose owner answers at once keeps what the taking, the owner, the reply and the waiting each keep. -/
theorem ownedRequest_keeps {P : State → Prop} {q : Req} {i : Instr} {owner : State → Answer} {s t : State} (hs : P s)
    (htaken : ∀ p u, P u → P (u.taken p)) (hreply : ∀ p r u, P u → P (pushReply p r u))
    (hwaits : P s → P (requestWaits q i s)) (howner : ∀ u, u.mode ≠ .boot ∨ refusedInBoot i = false → P u → P (owner u).state)
    (h : ownedRequest q i owner s = .next t) : P t := by
  have hanswer : ∀ a : Answer, P a.state → P (answer q i a) := by
    intro a ha
    unfold answer
    split
    · exact ha
    · exact hreply _ _ _ ha
  refine asRequest_keeps hs (fun _ _ hp => ?_) (fun _ => hwaits) h
  unfold serveRequest
  split
  · exact hanswer _ (htaken _ _ hp)
  · rename_i hb
    refine hanswer _ (howner _ ?_ (htaken _ _ hp))
    by_cases hm : (s.taken q.port).mode = .boot
    · exact .inr (by simpa [show s.mode = .boot by simpa using hm] using hb)
    · exact .inl hm

/-- A request whose reply stands before its effects' records keeps what the taking, the reply, the owner and the waiting each
keep. -/
theorem recordingRequest_keeps {P : State → Prop} {q : Req} {i : Instr} {owner : State → Answer} {s t : State} (hs : P s)
    (htaken : ∀ p u, P u → P (u.taken p)) (hreply : ∀ p r u, P u → P (pushReply p r u))
    (hwaits : P s → P (requestWaits q i s)) (howner : ∀ u, u.mode ≠ .boot ∨ refusedInBoot i = false → P u → P (owner u).state)
    (h : recordingRequest q i owner s = .next t) : P t := by
  refine asRequest_keeps hs (fun _ _ hp => ?_) (fun _ => hwaits) h
  unfold serveRequest
  split
  · exact hreply _ _ _ (htaken _ _ hp)
  · rename_i hb
    have hm : ∀ r, (pushReply q.port r (s.taken q.port)).mode ≠ .boot ∨ refusedInBoot i = false := by
      intro r
      by_cases hm : (s.taken q.port).mode = .boot
      · exact .inr (by simpa [show s.mode = .boot by simpa using hm] using hb)
      · exact .inl (by cases hq : q.port <;> simpa [pushReply, hq] using hm)
    unfold answerFirst
    split
    · rename_i hr
      refine howner _ ?_ (htaken _ _ hp)
      by_cases hm : (s.taken q.port).mode = .boot
      · exact .inr (by simpa [show s.mode = .boot by simpa using hm] using hb)
      · exact .inl hm
    · exact howner _ (hm _) (hreply _ _ _ (htaken _ _ hp))

/-- A step keeps what every command keeps, whatever the command queue, and what the Dispatcher's answer to a request of a
wrong length keeps. -/
theorem step_keeps {P : State → Prop} (hqueue : ∀ s l, P s → P { s with pending := l })
    (hexec : ∀ i s t, P s → exec i s = .next t → P t)
    (hanswer : ∀ p kind tag s, s.mayTake p = true → P s → P (answerMalformed p kind tag s)) {s t : State} (hs : P s)
    (h : step s = .next t) : P t := by
  unfold step at h
  split at h
  · exact hexec _ _ _ (hqueue _ _ hs) h
  · unfold dispatchNext at h
    split at h
    · cases h
      exact hs
    · rename_i p hp
      have hmay : s.mayTake p = true := by
        unfold State.nextPort at hp
        split at hp
        · rename_i hc
          cases hp
          exact hc.1
        · split at hp
          · rename_i hc
            cases hp
            exact hc.1
          · cases hp
      split at h
      · cases h
        exact hs
      · exact hexec _ _ _ hs h
      · cases h
        exact hanswer _ _ _ _ hmay hs

end Sys2Proof.Machine
end

