-- ==== Sys2Proof/Tests/Slice0.lean ====
section
/-! SUPPORT. The model's own tests: ill-formed commands are refused, the worked cases of spec/ come out, and for every
statement of Certificates/Slice0 a concrete state and operands meet its hypotheses, clause by clause. -/

namespace Sys2Proof.Tests

open Sys2Proof Sys2Proof.Machine

-- One test after another: each waits for the kernel's check of the earlier ones, and a waiting test holds a thread.
set_option Elab.async false

/-! ### Small states -/

def byTether : Req := ⟨.tether, 7⟩
def byService : Req := ⟨.service, 9⟩

/-- SETUP with the link UP and nothing queued. -/
def setupState : State :=
  { State.reset with mode := .setup, store.outcome := some .defaults, store.load := .idle, tether.link := .up }

/-- RUN with the ring LIT at code 128, and no frame in flight. -/
def runState : State :=
  { setupState with
    mode := .run, capture.mode := .waiting, ring.state := .lit, ring.presence := true, ring.demand := true
    ring.codes := List.replicate 12 128, ring.note := some .lit, sup.ring := .lit, head.leak.accepted := .inactive }

/-- A frame of the given class with tag 300, in slot 0 without a view. -/
def frameOf (c : FrameClass) : Frame := ⟨300, c, none, if c = .lit then some 0 else none, [], ⟨8, .lit, .none⟩⟩

/-- RUN in the exposure of a frame. -/
def exposing (c : FrameClass) : State := { runState with capture.mode := .exposing, capture.frame := some (frameOf c) }

def noSums : Accumulators := ⟨List.replicate 12 0, List.replicate 12 0, List.replicate 12 0, List.replicate 1024 0⟩

/-- RUN in the readout of a frame with the given rows arrived. -/
def reading (c : FrameClass) (rows : Nat) : State :=
  { runState with
    capture.mode := .readout, capture.frame := some (frameOf c), capture.rows := rows
    capture.zoneSums := List.replicate 1024 69632, cond.acc := some noSums
    slots := ⟨.filling, 300, false, 0, FrameRecord.none⟩ :: List.replicate 3 FrameSlot.atReset }

/-- A RADIAL profile of two by one tiles. -/
def smallProfile : Profile := { Profile.atReset with present := true, width := 2, table := 4 }

/-- The profile table with that profile at selectors 1 to 31, with the given mark. -/
def tableWith (m : Mark) : ProfileTable :=
  { ProfileTable.atReset with profiles := Profile.atReset :: List.replicate 31 { smallProfile with mark := m } }

/-- Slot A with selector 1 active in buffer 0. -/
def boundView : ViewSlot := { ViewSlot.atReset [] [] with active := 1, activeBuffer := some 0, buffer0 := ⟨.active, some 1, 15, 0, []⟩ }

/-- A warp entry of slot 0 for view A. -/
def entryA : WarpEntry := ⟨.live, 0, 300, .a, 0, 1, ⟨2, 1, 8192, 8192, 500, 77, .wide12⟩, ⟨8, .lit, .none⟩⟩

/-- RUN with a warp running. -/
def warping : State := { runState with warp := ⟨[entryA], .running, .nothing, 0, 0, false, false, none⟩ }

def aRecord : Record := ⟨0x81, 7, [0x00#8]⟩

/-- A state with the given fault kinds SET. -/
def withFaults (s : State) (l : List FaultKind) : State := l.foldl (fun t k => raise k t) s

/-- What a next state holds, and nothing of a stop. -/
def onNext {α : Type} (f : State → α) : Host.Outcome State Fault Refusal → Option α
  | .next t => some (f t)
  | _ => none

theorem exists_next (o : Host.Outcome State Fault Refusal) (h : (onNext (fun _ => ()) o).isSome = true) : ∃ t, o = .next t := by
  cases o with
  | next t => exact ⟨t, rfl⟩
  | fault r => cases r
  | refused r => simp [onNext] at h

/-! ### Ill-formed commands -/

/-- Each check of Instr.wellFormed that concerns events and settings refuses a term that fails it alone. -/
theorem test_illFormed_events : ([
    .powerOn ⟨8, false, .full, true⟩, .externalReset ⟨8, true, .reduced, false⟩, .recordReceived .tether 128 [],
    .serviceRead 128 1, .unknownKind ⟨.tether, 256⟩ 0, .unknownKind byTether 256, .unknownKind byTether 0x5A,
    .exposureEnd (List.replicate 11 0), .exposureEnd (List.replicate 12 4096), .sensorRow (List.replicate 1023 0),
    .sensorRow (List.replicate 1024 4096), .warpTileComplete [1048576]] : List Instr).all (fun i => !i.wellFormed) = true := by
  decide +kernel

/-- The same for the requests: a tag beyond one byte, and each field one beyond its bytes. -/
theorem test_illFormed_requests :
    let q : Req := ⟨.service, 256⟩
    let r := byService
    let bad : RegionArg := ⟨256, 0, 0, 1, 1⟩
    let one : RegionArg := ⟨0, 0, 0, 1, 1⟩
    let d : ProfileArg := ⟨1, 0, 0, 1, 1, 0, 0, 0, 0, 0, 0, 0, 1, 0, 0, 0⟩
    let c : ChannelArg := ⟨1, 0, 512, 128, 2000⟩
    let b : BalanceArg := ⟨0, 2000, 1024, 40, 64, 0xFFF, 0, 300, 0⟩
    ([.queryStatus q, .enterSetup q, .enterRun q, .restart q, .queryFrames q, .queryStatistics q, .abortAcquisition q,
      .queryViews q, .queryBalance q, .queryTrip q, .queryFaults q, .queryHead q, .storeCheck q,
      .setTiming q none none none, .setTiming r (some 65536) none none, .setTiming r none (some ⟨256, 1⟩) none,
      .setTiming r none (some ⟨1, 65536⟩) none, .setTiming r none none (some 256),
      .writeExposureTable r (List.replicate 15 1), .writeExposureTable r (List.replicate 16 65536),
      .pinFrame r (.tag 65536), .pinFrame r (.other 1), .releaseFrame r (.other 256),
      .writeSectorMap r [0], .writeSectorMap r (List.replicate 1024 256),
      .writeStatisticsSettings r 65536 0, .writeStatisticsSettings r 0 65536,
      .writeToneSegment r 256 (List.replicate 256 0), .writeToneSegment r 0 [], .readMapRegion r bad,
      .readMapRegionLinked r ⟨0, 256, 0, 1, 1⟩, .writeMapRegion r ⟨0, 0, 256, 1, 1⟩ [0], .writeMapRegion r one [],
      .writeMapRegion r one [65536], .writeMapRegionConditional r ⟨0, 0, 0, 256, 0⟩ [],
      .writeMapRegionConditional r ⟨0, 0, 0, 0, 256⟩ [], .setDarkRefresh r 256 0, .setDarkRefresh r 0 256,
      .startDarkAcquisition r 256, .startFlatFieldAcquisition r 256 1, .startFlatFieldAcquisition r 1 65536] : List Instr).all
        (fun i => !i.wellFormed) = true ∧
    ([.writeProfile r 256 d, .writeProfile r 1 { d with present := 256 }, .writeProfile r 1 { d with kind := 256 },
      .writeProfile r 1 { d with level := 256 }, .writeProfile r 1 { d with width := 256 },
      .writeProfile r 1 { d with height := 256 }, .writeProfile r 1 { d with ocx := 32768 },
      .writeProfile r 1 { d with ocy := -32769 }, .writeProfile r 1 { d with startAngle := 65536 },
      .writeProfile r 1 { d with scx := -32769 }, .writeProfile r 1 { d with scy := 32768 },
      .writeProfile r 1 { d with radius := 65536 }, .writeProfile r 1 { d with table := 256 },
      .writeProfile r 1 { d with step := 256 }, .writeProfile r 1 { d with fill := 65536 },
      .writeProfile r 1 { d with format := 256 }, .writeProfile r 1 { d with mark := 256 },
      .readProfile r 256, .setProfileLimit r 256, .writeRadialTable r 256 (List.replicate 65 0), .writeRadialTable r 0 [0],
      .readRadialTable r 256, .bindView r 256 0, .bindView r 0 256, .reviewFrame r 65536 0, .reviewFrame r 0 256,
      .writeChannelTable r 256 c, .writeChannelTable r 0 { c with enabled := 256 }, .writeChannelTable r 0 { c with dmin := 65536 },
      .writeChannelTable r 0 { c with dmax := 65536 }, .writeChannelTable r 0 { c with start := 65536 },
      .writeChannelTable r 0 { c with limit := 65536 }, .writeRingBudget r 65536,
      .writeBalanceSettings r { b with loopMode := 256 }, .writeBalanceSettings r { b with target := 65536 },
      .writeBalanceSettings r { b with kp := 65536 }, .writeBalanceSettings r { b with slew := 65536 },
      .writeBalanceSettings r { b with deadband := 65536 }, .writeBalanceSettings r { b with mask := 65536 },
      .writeBalanceSettings r { b with autoExposure := 256 }, .writeBalanceSettings r { b with margin := 65536 },
      .writeBalanceSettings r { b with forced := 65536 }, .writeGlareTable r 256 (List.replicate 256 0),
      .writeGlareTable r 0 [0], .setDrive r [0], .setDrive r (List.replicate 12 65536),
      .writeSupervisionLimits r 65536 1 1 0, .writeSupervisionLimits r 0 256 1 0, .writeSupervisionLimits r 0 1 256 0,
      .writeSupervisionLimits r 0 1 1 65536, .clearFaults r (List.replicate 13 0), .clearFaults r [256],
      .setFaultPolicy r [] 0, .setFaultPolicy r (List.replicate 12 ⟨256, 0⟩) 0, .setFaultPolicy r (List.replicate 12 ⟨0, 256⟩) 0,
      .setFaultPolicy r (List.replicate 12 ⟨0, 0⟩) 256, .storeWritePage r 65536 (List.replicate 256 0#8), .storeWritePage r 0 [],
      .storeReadPage r 65536] : List Instr).all (fun i => !i.wellFormed) = true := by
  decide +kernel

/-! ### Worked cases of spec/ -/

/-- The check value of the standard string 123456789 for the generator of R166 (29B1 hex) and for that of R177 with all bits
set at the start and no inversion (0376E6E7 hex): published check values of those codes. -/
theorem test_check_values :
    crc16 ((List.range 9).map fun n => BitVec.ofNat 8 (49 + n)) = 0x29B1 ∧
    crc32 ((List.range 9).map fun n => BitVec.ofNat 8 (49 + n)) = 0x0376E6E7 := by
  decide +kernel

/-- Table 1-1. -/
theorem test_index_in_effect :
    (exposureFor defaultExposures 8 10, exposureFor defaultExposures 15 10) = ((0, 10), (0, 10)) ∧
    (exposureFor defaultExposures 8 100, exposureFor defaultExposures 15 100) = ((6, 80), (6, 80)) ∧
    (exposureFor defaultExposures 8 250, exposureFor defaultExposures 15 250) = ((8, 160), (9, 226)) ∧
    (exposureFor defaultExposures 8 4660, exposureFor defaultExposures 15 4660) = ((8, 160), (15, 1810)) := by
  decide +kernel

/-- Table 2-1, and the limit cases after it. -/
theorem test_conditioned_pixel :
    let gain := (List.replicate 1089 1024).set 1 1280 |>.set 34 1536
    conditionPixel (List.replicate 1024 60) gain 8 16 1500 = (1440, 1575) ∧
    conditionPixel (List.replicate 1024 60) gain 8 16 40 = (0, 0) ∧
    conditionPixel (List.replicate 1024 60) (List.replicate 1089 2048) 8 16 3060 = (3000, 4095) := by
  decide +kernel

/-- Table 3-4: zones (4, 4) to (7, 4), which are entries 132 to 135. -/
theorem test_dark_refresh :
    let dark := CalUnit.atReset.dark.set 132 60 |>.set 133 60 |>.set 134 67 |>.set 135 1020
    let sums := (List.replicate 1024 0).set 132 69632 |>.set 133 61440 |>.set 134 69700 |>.set 135 1100000
    let s := { reading .darkPattern 1024 with
      cal.dark := dark, capture.zoneSums := sums, linkTether := some ⟨.dark, 4, 4, 2, 1⟩, linkService := some ⟨.dark, 5, 4, 3, 1⟩ }
    onNext (fun t => ((t.cal.dark.drop 132).take 4, t.linkTether.isSome, t.linkService.isSome))
      (exec .readoutCompletionDark s) = some ([61, 60, 67, 1020], false, true) := by
  decide +kernel

/-- Table 5-5 and the limit cases after it. -/
theorem test_radial_nodes :
    let p := { smallProfile with ocx := 514, ocy := 536 }
    let t := (List.replicate 65 0).set 3 640 |>.set 4 800
    let o := { smallProfile with ocx := 0, ocy := 0 }
    meshNode p t 544 576 = ⟨8588, 8720, true⟩ ∧
    sourceRadius (t.set 3 800 |>.set 4 640) 16 800 = some 780 ∧
    (meshNode o t 1024 0).valid = true ∧ radialArgument o 1024 0 = 16384 ∧
    radialArgument o 800 704 = 17050 ∧ (meshNode o t 800 704).valid = false ∧
    (meshNode { o with scx := 32000 } (List.replicate 65 1000) 16 0).sx = 32767 := by
  decide +kernel

/-- Table 5-6, and values of Table 5-4. -/
theorem test_unroll_nodes :
    let p := { smallProfile with kind := .unroll, width := 32, height := 32 }
    let t := (List.replicate 65 0).set 5 800
    meshNode p t 128 80 = ⟨8758, 8758, true⟩ ∧ meshNode p t 640 80 = ⟨7626, 7626, true⟩ ∧
    meshNode p t 1024 80 = ⟨8992, 8192, true⟩ ∧
    (List.map sine [0, 256, 512, 1024, 2048, 2560, 3072]) = [0, 6270, 11585, 16384, 0, -11585, -16384] ∧
    (List.map cosine [0, 256, 512, 1024, 2048, 2560, 3072]) = [16384, 15137, 11585, 0, -16384, -11585, 0] := by
  decide +kernel

/-- The worked output pixel of section 6.4 (Tables 6-2 and 6-3) and the second position after it. -/
theorem test_output_pixel :
    let m : Mesh := ⟨[⟨8588, 8720, true⟩, ⟨8860, 8700, true⟩, ⟨8600, 9000, true⟩, ⟨8880, 8980, true⟩], 2⟩
    let s := { setupState with
      frameStore := [(pixelPlace 0 536 545, 1000), (pixelPlace 0 537 545, 1200), (pixelPlace 0 541 553, 800),
        (pixelPlace 0 542 553, 820), (pixelPlace 0 541 554, 900), (pixelPlace 0 542 554, 940)] }
    sourcePosition m entryA.copy 4 8 = some (8663, 8855) ∧ s.levelAt entryA m 4 8 = (856, 0) ∧
    s.levelAt entryA m 0 0 = (1150, 0) ∧ positionValid entryA.copy 16369 8192 = false := by
  decide +kernel

/-- The worked update of section 7.7: Tables 7-4 and 7-5. -/
theorem test_balance_update :
    let on : Channel := ⟨true, 100, 512, 128, 2000, .normal⟩
    let off : Channel := { on with enabled := false, state := .disabled }
    let s := { runState with
      ring.channels := List.replicate 6 on ++ List.replicate 6 off
      ring.codes := [380, 400, 420, 370, 360, 350, 0, 0, 0, 0, 0, 0], ring.band := .warm
      ring.balance := ⟨.loop, 2000, 1024, 40, 64, 0xFFF, true, 300, 0⟩, ring.glare := Ring.atReset.glare.set 4 .dimHot }
    let st : SectorStats := ⟨300, List.replicate 12 10, [1700, 1950, 3100, 1800, 2300, 1900, 0, 0, 0, 0, 0, 0],
      List.replicate 12 0, 4, 4⟩
    let t := balanceHandOver st s
    s.ring.effective = 2304 ∧ t.ring.codes = [419, 399, 379, 409, 319, 374, 0, 0, 0, 0, 0, 0] ∧
    t.ring.last = some ⟨300, .applied .dimHot true 0⟩ ∧ t.capture.requested = s.capture.requested := by
  decide +kernel

/-- The sample set of section 8.7 (Table 8-5), and the one with channel 3 at 1950. -/
theorem test_sample_set :
    let l := [980, 1010, 995, 2050, 1000, 1020, 990, 1005, 1015, 985, 30, 1000]
    onNext (fun t => (t.sup.sample.map (·.cause), t.sup.count, t.ring.codes, (t.faults.entry .channelOpen).set))
      (exec (.exposureEnd l) (exposing .lit)) =
      some (some (some 3), 1, (List.replicate 12 128).set 10 0, true) ∧
    onNext (fun t => (t.sup.sample.map (·.cause), t.sup.count)) (exec (.exposureEnd (l.set 3 1950)) (exposing .lit)) =
      some (some none, 0) := by
  decide +kernel

/-! ### Commands one by one -/

/-- Payloads read field by field as R167 lays them out: markers before the parts of Set Timing, most significant byte first,
two's complement, codes of NEXT and TAG; a payload one byte short or long is MALFORMED (R169 (2)). -/
theorem test_payloads_read :
    readRecord .tether ⟨0x10, 7, [1#8, 0x02#8, 0x99#8, 1#8, 0x10#8, 0x7F#8, 0xFF#8, 1#8, 0x08#8]⟩ =
      .request (.setTiming byTether (some 665) (some ⟨16, 0x7FFF⟩) (some 8)) ∧
    readRecord .service ⟨0x10, 9, [0#8, 0#8, 0#8]⟩ = .request (.setTiming byService none none none) ∧
    readRecord .tether ⟨0x12, 7, [1#8, 0x0F#8, 0xFF#8]⟩ = .request (.pinFrame byTether (.tag 4095)) ∧
    readRecord .tether ⟨0x13, 7, [0#8]⟩ = .request (.releaseFrame byTether .next) ∧
    readRecord .tether ⟨0x41, 7, [0x0C#8, 0x00#8]⟩ = .request (.writeRingBudget byTether 3072) ∧
    readRecord .tether ⟨0x41, 7, [0x0C#8]⟩ = .malformed 0x41 7 ∧
    readRecord .tether ⟨0x41, 7, [0x0C#8, 0x00#8, 0x00#8]⟩ = .malformed 0x41 7 ∧
    readRecord .service ⟨0x20, 9, [1#8, 32#8, 31#8, 1#8, 2#8]⟩ = .request (.readMapRegion byService ⟨1, 32, 31, 1, 2⟩) ∧
    readRecord .tether ⟨0x99, 7, []⟩ = .request (.unknownKind byTether 0x99) ∧
    i16 (-2) = [0xFF#8, 0xFE#8] ∧ packPixels .wide12 [0xABC, 0xDEF] = [0xAB#8, 0xCD#8, 0xEF#8] := by
  decide +kernel

/-- Query Status from the service port in BOOT: the reply is kind 81 hex with the tag, OK, and 27 bytes that begin with mode
BOOT and a link in training (R174). -/
theorem test_queryStatus_in_boot :
    onNext (fun t => t.service.replies.map fun r => (r.kind, r.tag, r.payload.take 2))
      (exec (.queryStatus byService) State.reset) = some [(0x81, 9, [0x00#8, 0x00#8])] := by
  decide +kernel

/-- A request of a kind outside Table 10-2 is answered UNKNOWN_KIND (04 hex) with the reply kind FF hex (R167, R169 (1)). -/
theorem test_unknown_kind :
    onNext (fun t => t.service.replies) (exec (.unknownKind byService 0x77) State.reset) = some [⟨0xFF, 9, [0x04#8]⟩] := by
  decide +kernel

/-- Section 8.8: the off trip at the fourth over-limit set, with N1 = 2 and N2 = 4. -/
theorem test_off_trip :
    let s := { exposing .lit with sup.dimCount := 2, sup.offCount := 4, sup.count := 3, ring.state := .dim, sup.ring := .dim,
                                  sup.level := .one, ring.trip := .one }
    onNext (fun t => (t.sup.count, t.sup.level, t.ring.state, t.ring.codes, t.sup.offPart))
      (exec (.exposureEnd ((List.replicate 12 100).set 3 2050)) s) =
      some (4, .two, .lockedOff, List.replicate 12 0, some ⟨300, 3⟩) := by
  decide +kernel

/-- The image of a blank flash is bad: DEFAULTS, STORE_IMAGE_BAD and the STARTED notice after FAULT RAISED (R177, R179). -/
theorem test_blank_flash_is_bad :
    onNext (fun t => (t.mode, t.store.outcome, (t.faults.entry .storeImageBad).set, t.tether.sending.map (·.kind),
        t.tether.notices.map (·.kind)))
      (exec .storeImageRead { State.reset with tether.link := .up }) =
      some (.setup, some .defaults, true, some 0xF1, [0xF0]) := by
  decide +kernel

/-- A review on an idle engine and a free transmitter: the reply is sent and the FRAME BEGIN follows it (R100, R170). -/
theorem test_reply_before_records :
    onNext (fun t => (t.tether.sending.map (·.kind), t.tether.replies.length, t.tether.images.map (·.kind)))
      (exec (.reviewFrame byTether 300 0) { runState with
        slots := ⟨.held, 300, true, 0, FrameRecord.none⟩ :: List.replicate 3 FrameSlot.atReset, held := [0]
        table := tableWith .aActive, viewA := boundView }) = some (some 0xB8, 0, [0xE0]) := by
  decide +kernel

/-- R155's two cases: OFF then ON before the OFF write starts writes ON only; ON then OFF while the ON write is in flight writes ON
and then OFF. An idle master starts the write at once, and SILENT the request is not carried out. -/
theorem test_supply_writes :
    let idle := { setupState with head.transfer := none }
    let busy := { runState with head.transfer := some .read }
    let shown := fun (s : State) => (s.head.transfer, s.head.pendingWrite)
    shown (setDemand true (setDemand false busy)) = (some .read, some true) ∧
    shown (setDemand true idle) = (some (.supplyWrite true), none) ∧
    shown (setDemand false (setDemand true idle)) = (some (.supplyWrite true), some false) ∧
    shown (setDemand true (setDemand false (setDemand true idle))) = (some (.supplyWrite true), none) ∧
    shown (setDemand true { idle with head.silent := true }) = (none, none) := by
  decide +kernel

/-- R51: a frame start that makes a missed frame notes the acquisition in flight, and the frame in readout keeps its own mark. -/
theorem test_missed_frame_notes_acquisition :
    onNext (fun t => (t.capture.latestAcq, t.capture.latestClass, (t.capture.frame.map (·.acq))))
      (exec .frameStart { reading .lit 5 with cal.acq := some ⟨.dark, 4, 0, 9, 0, List.replicate 1024 0⟩ }) =
      some (some (.dark, 9), some .darkAcquisition, some none) := by
  decide +kernel

/-- R10 (2), R167: Query Frames codes a dark acquisition frame, marked ACQUISITION, as class dark, 01. -/
theorem test_query_frames_classes :
    FrameClass.code .lit = 0 ∧ FrameClass.code .darkPattern = 1 ∧ FrameClass.code .darkAcquisition = 1 := by decide +kernel

/-! ### Witnesses: the hypotheses of each statement are met, clause by clause -/

theorem witness_StepRunsFrontCommand : onNext (fun t => t.pending) (step { runState with pending := [.frameStart, .linkLoss] }) =
    some [.linkLoss] := by decide +kernel

theorem witness_EmptyQueueTakesNextRequest :
    let full := { setupState with tetherQueue := [.request (.queryHead byTether), .malformed 1 3],
                                  serviceQueue := [.malformed 0x10 9] }
    (runState.pending = [] ∧ { runState with restartPending := some .tether }.restartPending ≠ none) ∧
    (setupState.ready .tether = false ∧ setupState.ready .service = false) ∧
    (full.pending = [] ∧ full.restartPending = none ∧ full.ready .tether = true ∧ full.ready .service = true ∧
      full.lastServed = .service ∧ full.queueOf .tether = [.request (.queryHead byTether), .malformed 1 3]) ∧
    (let s := { full with lastServed := .tether };
      s.ready .service = true ∧ s.lastServed = Port.service.other ∧ s.queueOf .service = [.malformed 0x10 9]) := by
  decide +kernel

theorem witness_WellFormedCommandsRun :
    (Instr.exposureEnd (List.replicate 12 4095)).wellFormed = true ∧
    (Instr.exposureEnd (List.replicate 12 4096)).wellFormed = false := by decide +kernel

theorem witness_CommandsStayReadable :
    { setupState with pending := [.queryHead byTether], tetherQueue := [.request (.unknownKind byTether 0x77), .malformed 1 2] }.commandsReadable := by
  refine ⟨by decide +kernel, ?_, by simp [setupState, State.reset]⟩
  intro w hw
  simp only [List.mem_cons, List.not_mem_nil, or_false] at hw
  rcases hw with rfl | rfl
  · exact ⟨by decide +kernel, by decide +kernel⟩
  · trivial

theorem witness_MemoryStaysCanonical :
    let s := { reading .lit 5 with pending := [.sensorRow (List.replicate 1024 1)], frameStore := [(3, 8), (5120, 9)] }
    s.memoryWf ∧ ∃ t, step s = .next t :=
  ⟨⟨by decide +kernel, by decide +kernel⟩, exists_next _ (by decide +kernel)⟩

theorem witness_QueuesStayBounded :
    let s := { setupState with tetherQueue := List.replicate 8 (.malformed 1 1), serviceQueue := List.replicate 2 (.malformed 1 1)
                               tether.replies := List.replicate 7 aRecord, store.op := some (.check byTether)
                               tether.notices := List.replicate 8 aRecord, tether.images := List.replicate 16 aRecord
                               service.replies := List.replicate 2 aRecord, tether.sending := some aRecord }
    s.queuesBounded ∧ ∃ t, step s = .next t :=
  ⟨by unfold State.queuesBounded; decide +kernel, exists_next _ (by decide +kernel)⟩

theorem witness_LinkDownStaysQuiet :
    let s := { warping with tether.link := .down, warp.discarding := true, pending := [.warpTileComplete []] }
    s.quietWhenDown ∧ s.tether.link ≠ .up ∧ ∃ t, step s = .next t :=
  ⟨by unfold State.quietWhenDown; decide +kernel, by decide +kernel, exists_next _ (by decide +kernel)⟩

theorem witness_FaultLineFollowsTable :
    let s := { withFaults runState [.housingLeak] with pending := [.queryFaults byTether] }
    s.lineFormed ∧ s.faults.line = true ∧ ∃ t, step s = .next t :=
  ⟨by unfold State.lineFormed; decide +kernel, by decide +kernel, exists_next _ (by decide +kernel)⟩

theorem witness_RingStaysSafe :
    let s := { runState with ring.band := .normal, pending := [.queryBalance byTether] }
    s.ringSafe ∧ ∃ t, step s = .next t := by
  refine ⟨⟨⟨by decide +kernel, ?_⟩, ⟨by decide +kernel, ?_⟩, by decide +kernel, by decide +kernel, by decide +kernel,
    by decide +kernel⟩, exists_next _ (by decide +kernel)⟩
  · unfold Channel.ordered; decide +kernel
  · unfold codeAllowed; decide +kernel

/-! Frame slots, view slots and mesh buffers in order: the properties are decided through their definitions. -/

theorem of_dec {p : Prop} (d : Decidable p) (h : @decide p d = true) : p := of_decide_eq_true h

def agreesDec (m : MeshBuffer) (x : ViewSlot) : Decidable (m.agrees x) := by
  unfold MeshBuffer.agrees; split <;> infer_instance

set_option synthInstance.maxSize 10000 in
def framesDec (s : State) : Decidable s.framesWell := by
  unfold State.framesWell State.slotsWell State.warpsWell; infer_instance

set_option synthInstance.maxSize 10000 in
def viewDec (s : State) (v : View) : Decidable (s.viewWell v) := by
  unfold State.viewWell
  haveI := agreesDec (s.view v).buffer0 (s.view v)
  haveI := agreesDec (s.view v).buffer1 (s.view v)
  dsimp only
  cases (s.view v).pending with
  | profile n b => cases b <;> dsimp only <;> infer_instance
  | _ => dsimp only; infer_instance

def viewsDec (s : State) : Decidable s.viewsWell := by
  haveI := viewDec s .a
  haveI := viewDec s .b
  unfold State.viewsWell State.tableWell
  infer_instance

/-- Profiles 1 to 3 present with table 4, profile 1 active at slot A and profile 2 with the given mark. -/
def wellTable (second : Mark) : ProfileTable :=
  { ProfileTable.atReset with
    profiles := (((List.replicate 32 Profile.atReset).set 1 { smallProfile with mark := .aActive }).set 2
      { smallProfile with mark := second }).set 3 smallProfile
    holds := [0, 0, 0, 0, if second = .none then 1 else 2, 0, 0, 0] }

/-- RUN with a warp of slot 0 running over buffer 0 of slot A, whose active selector is 1. -/
def wellBound : State :=
  { warping with
    slots := ⟨.held, 300, false, 1, FrameRecord.none⟩ :: List.replicate 3 FrameSlot.atReset, held := [0]
    table := wellTable .none, viewA := { boundView with buffer0 := { boundView.buffer0 with uses := 1 } } }

/-- The same with UNBIND pending at slot A. -/
def wellUnbind : State := { wellBound with viewA := { wellBound.viewA with pending := .unbind } }

/-- The same with profile 2 pending at slot A and its build in buffer 1 in the given state. -/
def wellPending (b : BuildState) (m : BufferState) : State :=
  { wellBound with
    table := wellTable .aPending
    viewA := { wellBound.viewA with pending := .profile 2 b, buffer1 := ⟨m, some 2, 15, 0, []⟩ } }

/-- The same with a review of selector 3 in the RETIRING buffer 1, and the build of profile 2 WAITING. -/
def wellWaiting : State :=
  { wellBound with
    slots := ⟨.held, 300, false, 2, FrameRecord.none⟩ :: List.replicate 3 FrameSlot.atReset
    warp := { wellBound.warp with queue := [entryA, { entryA with purpose := .review, buffer := 1, selector := 3 }] }
    table := wellTable .aPending
    viewA := { wellBound.viewA with pending := .profile 2 .waiting, buffer1 := ⟨.retiring, some 3, 15, 1, []⟩ } }

/-- SETUP with no warp, slot A bound to selector 1, and profile 2 being built in buffer 1. -/
def wellSetup : State :=
  { wellPending .building .building with
    mode := .setup, capture.mode := .stopped, ring.state := .off
    slots := List.replicate 4 FrameSlot.atReset, held := [], warp := Warp.atReset
    viewA := { (wellPending .building .building).viewA with buffer0 := boundView.buffer0 } }

theorem wellBound_well : wellBound.framesWell ∧ wellBound.viewsWell :=
  ⟨of_dec (framesDec _) (by decide +kernel), of_dec (viewsDec _) (by decide +kernel)⟩

theorem wellUnbind_views : wellUnbind.viewsWell := of_dec (viewsDec _) (by decide +kernel)
theorem wellReady_views : (wellPending .ready .ready).viewsWell := of_dec (viewsDec _) (by decide +kernel)
theorem wellBuilding_views : (wellPending .building .building).viewsWell := of_dec (viewsDec _) (by decide +kernel)
theorem wellSetup_views : wellSetup.viewsWell := of_dec (viewsDec _) (by decide +kernel)

theorem wellWaiting_well : wellWaiting.framesWell ∧ wellWaiting.viewsWell :=
  ⟨of_dec (framesDec _) (by decide +kernel), of_dec (viewsDec _) (by decide +kernel)⟩

theorem witness_FramesAndViewsStayWell :
    let s := { wellWaiting with pending := [.bindView byTether 0 0] }
    s.framesWell ∧ s.viewsWell ∧ ∃ t, step s = .next t :=
  ⟨of_dec (framesDec _) (by decide +kernel), of_dec (viewsDec _) (by decide +kernel), exists_next _ (by decide +kernel)⟩

theorem witness_TetherReceivesRecords :
    let l : List Record := [⟨0x01, 255, []⟩, ⟨0x41, 0, u16 3072⟩]
    (∀ r ∈ l, r.fits) ∧ setupState.tether.link = .up ∧ setupState.tether.rx = [] ∧
    { setupState with tetherQueue := List.replicate 6 (.malformed 1 1) }.tetherQueue.length + l.length ≤ 8 := by
  unfold Record.fits; decide +kernel

theorem witness_PortsReceiveRecords :
    let r : Record := ⟨0x41, 255, u16 3072⟩
    let one := { setupState with serviceQueue := [.malformed 1 1] }
    let full := { setupState with tetherQueue := List.replicate 8 (.malformed 1 1), serviceQueue := List.replicate 2 (.malformed 1 1) }
    let bad := fun (l : List Byte) =>
      let length := (l.getD 0 0).toNat * 256 + (l.getD 1 0).toNat
      let check := (l.getD (length + 4) 0).toNat * 256 + (l.getD (length + 5) 0).toNat
      4 ≤ l.length ∧ 2048 < length ∨ length ≤ 2048 ∧ length + 6 ≤ l.length ∧ crc16 (l.take (length + 4)) ≠ check
    r.fits ∧ (Record.mk 0xFF 0 (List.replicate 2048 0#8)).fits ∧
    (one.service.address = 88 ∧ one.serviceQueue.length < 2) ∧ r.bytes.length - 1 < r.bytes.length ∧
    89 ≠ one.service.address ∧ State.reset.tether.link ≠ .up ∧
    (full.tether.link = .up ∧ full.tether.rx = [] ∧ 8 ≤ full.tetherQueue.length ∧ 2 ≤ full.serviceQueue.length) ∧
    { full with tether.replies := List.replicate 7 aRecord }.tether.replies.length + full.heldPlaces .tether < 8 ∧
    ¬ { full with tether.replies := List.replicate 8 aRecord }.tether.replies.length + full.heldPlaces .tether < 8 ∧
    (let l : List Byte := [0x08#8, 0x01#8, 0x01#8, 0x07#8]; bad l ∧ ∀ b ∈ l, b ≠ 0xA5#8) ∧
    (let l := (r.bytes.drop 1).dropLast ++ [0x00#8]; bad l ∧ l.length = 2 + 6 ∧ ∀ b ∈ l, b ≠ 0xA5#8) ∧
    ([0x08#8, 0x01#8, 0x01#8] : List Byte).length < 4 ∧ (r.bytes.drop 1).dropLast.length < 2 + 6 := by
  unfold Record.fits; decide +kernel

theorem witness_ServiceReadReturnsOldestReply :
    let s := { setupState with service.replies := [aRecord] }
    127 ≠ setupState.service.address ∧ (88 = setupState.service.address ∧ setupState.service.replies = []) ∧
    (88 = s.service.address ∧ s.restartPending = none ∧ s.service.replies = [aRecord] ∧ aRecord.bytes.length = 8) := by
  decide +kernel

theorem witness_DispatcherRefusesRequests :
    let r : Record := ⟨0x03, 7, []⟩
    (r.fits ∧ requestKinds.contains r.kind = true ∧ r.kind ≠ 0x01 ∧ readRecord .tether r = .request (.enterRun byTether) ∧
      State.reset.mode = .boot ∧ State.reset.takes ⟨.tether, r.tag⟩ (.enterRun byTether) = true) ∧
    ((Instr.unknownKind byTether 0xFF).wellFormed = true ∧ State.reset.takes byTether (.unknownKind byTether 0xFF) = true ∧
      runState.takes byTether (.unknownKind byTether 0) = true) := by
  unfold Record.fits; decide +kernel

theorem witness_QueryStatusReply :
    (Instr.queryStatus byTether).wellFormed = true ∧ State.reset.takes byTether (.queryStatus byTether) = true ∧
    { runState with tetherQueue := [.request (.queryStatus byTether)] }.takes byTether (.queryStatus byTether) = true := by
  decide +kernel

theorem witness_EnterSetupEndsRun :
    (setupState.serves byTether (.enterSetup byTether) ∧ setupState.mode = .setup) ∧
    ((reading .lit 5).serves byService (.enterSetup byService) ∧ (reading .lit 5).mode = .run ∧
      (reading .lit 5).warp.engine = .idle ∧ (reading .lit 5).warp.queue = []) ∧
    (wellWaiting.serves byTether (.enterSetup byTether) ∧ (wellWaiting.view .a).pending = .profile 2 .waiting ∧
      (wellPending .building .building).serves byTether (.enterSetup byTether)) ∧
    (let s := wellPending .ready .ready;
      s.serves byTether (.enterSetup byTether) ∧ (s.view .a).activeBuffer = some 0 ∧ (s.view .a).active = 1 ∧
      (s.view .a).pending = .profile 2 .ready ∧ ((adoptViews s).view .a).active = 2) ∧
    wellUnbind.serves byTether (.enterSetup byTether) ∧ (wellUnbind.view .a).pending = .unbind := by decide +kernel

/-- The warp clauses of EnterSetupEndsRun: a running live entry with a place free and no review behind it, with no place free, with
its FRAME BEGIN waiting, discarding, and with a review behind it; a running review; an owed FRAME END. -/
theorem witness_EnterSetupEndsRun_warps :
    let ends := fun (s : State) => s.serves byTether (.enterSetup byTether) ∧ s.mode = .run
    let full := List.replicate 16 aRecord
    let review := { entryA with purpose := Purpose.review }
    (ends wellBound ∧ wellBound.framesWell ∧ wellBound.viewsWell ∧ wellBound.warp.engine = .running ∧
      wellBound.warp.queue = entryA :: [] ∧ entryA.purpose = .live ∧ wellBound.warp.waiting = .nothing ∧
      wellBound.warp.discarding = false ∧ wellBound.tether.images.length < 16 ∧
      wellBound.warp.queue.filter (·.purpose = .review) = []) ∧
    (let s := { wellBound with tether.images := full };
      ends s ∧ s.warp.waiting = .nothing ∧ s.warp.discarding = false ∧ 16 ≤ s.tether.images.length) ∧
    (let s := { wellBound with tether.images := full, warp.waiting := .frameBegin };
      ends s ∧ s.warp.waiting = .frameBegin ∧ 16 ≤ s.tether.images.length) ∧
    (let s := { wellBound with tether.link := .down, warp.discarding := true };
      ends s ∧ s.warp.waiting = .nothing ∧ s.warp.discarding = true) ∧
    (ends wellWaiting ∧ wellWaiting.framesWell ∧ wellWaiting.viewsWell ∧ wellWaiting.tether.images.length < 15 ∧
      wellWaiting.tether.link = .up ∧ wellWaiting.warp.engine = .running ∧ wellWaiting.warp.discarding = false ∧
      (wellWaiting.warp.queue.filter (·.purpose = .review)).length = 1) ∧
    (let s := { wellBound with warp.queue := [review] };
      ends s ∧ s.warp.engine = .running ∧ s.warp.queue = review :: [] ∧ review.purpose = .review) ∧
    (let s := { wellBound with
        tether.images := full, warp := ⟨[entryA], .closing, .nothing, 0, 0, false, false, some ⟨.a, 300, true, 2⟩⟩ };
      ends s ∧ s.warp.engine = .closing ∧ s.warp.discarding = false ∧ 16 ≤ s.tether.images.length) :=
  ⟨⟨by decide +kernel, wellBound_well.1, wellBound_well.2, by decide +kernel⟩, by decide +kernel, by decide +kernel,
    by decide +kernel, ⟨by decide +kernel, wellWaiting_well.1, wellWaiting_well.2, by decide +kernel⟩, by decide +kernel,
    by decide +kernel⟩

theorem witness_EnterRunBeginsRun :
    let ready := { setupState with head.leak.accepted := .inactive }
    let exact := { ready with ring.channels := List.replicate 12 { Channel.atReset with dmin := 100 }, ring.budget := 1200 }
    (runState.serves byTether (.enterRun byTether) ∧ runState.mode = .run) ∧
    (setupState.serves byTether (.enterRun byTether) ∧ setupState.mode = .setup ∧ setupState.head.leak.accepted ≠ .inactive) ∧
    ({ ready with head.silent := true }.serves byTether (.enterRun byTether) ∧ { ready with head.silent := true }.head.silent = true) ∧
    ({ exact with ring.budget := 1199 }.serves byService (.enterRun byService) ∧
      { exact with ring.budget := 1199 }.head.leak.accepted = .inactive ∧ exact.head.silent = false ∧
      { exact with ring.budget := 1199 }.ring.budget < ((exact.ring.channels.filter (·.enabled)).map (·.dmin)).sum) ∧
    (exact.serves byTether (.enterRun byTether) ∧ exact.mode = .setup ∧ exact.head.leak.accepted = .inactive ∧
      exact.head.silent = false ∧ ((exact.ring.channels.filter (·.enabled)).map (·.dmin)).sum ≤ exact.ring.budget ∧
      exact.ring.presence = false ∧ { exact with ring.presence := true }.ring.presence = true) := by
  decide +kernel

/-- SETUP before a run: the ring dark, slot A bound, a next pin pending. -/
def startingRun : State :=
  { setupState with
    head.leak.accepted := .inactive, head.transfer := none, ring.presence := true, nextPin := true
    viewA := boundView, capture.skipA := 9 }

/-- The class, slot and pins of the frame that Enter Run starts, with the view's skip count. -/
def firstFrame (s : State) : Option (Option FrameClass × Option Nat × Bool × Nat) :=
  onNext (fun t => (t.capture.latestClass, t.capture.frame.bind (·.slot), t.nextPin, t.skip .a)) (exec (.enterRun byTether) s)

/-- The frame start of Enter Run: a lit frame with a slot and the next pin, one without a FREE slot that counts its view, and a dark
one; the supply write that the demand asks for. -/
theorem witness_EnterRunBeginsRun_frames :
    let full := { startingRun with slots := List.replicate 4 ⟨.held, 1, true, 0, FrameRecord.none⟩ }
    let dark := { startingRun with cal.acq := some ⟨.dark, 1, 0, 3, 0, List.replicate 1024 0⟩ }
    (startingRun.serves byTether (.enterRun byTether) ∧ startingRun.mode = .setup ∧ startingRun.ring.demand = false ∧
      startingRun.ring.presence = true ∧ startingRun.firstFree = some 0) ∧
    (firstFrame startingRun = some (some .lit, some 0, false, 0) ∧
      onNext (fun t => t.head.transfer) (exec (.enterRun byTether) startingRun) = some (some (.supplyWrite true))) ∧
    (full.firstFree = none ∧ full.viewA.active ≠ 0 ∧ firstFrame full = some (some .lit, none, true, 1)) ∧
    firstFrame dark = some (some .darkAcquisition, none, true, 0) := by
  refine ⟨?_, ⟨?_, ?_⟩, ?_, ?_⟩ <;> decide +kernel

theorem witness_RestartIsCarriedOut :
    let reply : Record := ⟨0x84, 7, [0x00#8]⟩
    setupState.serves byTether (.restart byTether) ∧ runState.serves byService (.restart byService) ∧
    ({ setupState with tether.link := .down }.serves byTether (.restart byTether) ∧
      { setupState with tether.link := .down }.tether.link ≠ .up) ∧
    (let s := { setupState with tether.sending := some reply, restartPending := some .tether };
      s.tether.sending = some reply ∧ s.restartPending = some .tether) ∧
    (let s := { setupState with service.replies := [reply], restartPending := some .service };
      88 = s.service.address ∧ s.service.replies = [reply] ∧ s.restartPending = some .service ∧ reply.bytes.length = 8) ∧
    setupState.restartPending ≠ some .service ∧ setupState.tether.sending = none := by
  decide +kernel

/-- R175: queues, counts and the record being sent go; an UP link stays UP at its rate, with the STARTED notice of DEFAULTS there. -/
theorem witness_RestartIsCarriedOut_reset :
    let busy := { setupState with
      restartPending := some .service, tetherQueue := [.malformed 1 1], serviceQueue := [.malformed 1 2]
      tether.offered := .reduced, tether.errors := 3, tether.rx := [1#8], tether.sending := some aRecord
      tether.replies := [aRecord], tether.notices := [aRecord], tether.images := [aRecord], service.errors := 4
      service.replies := [aRecord] }
    let off := { busy with store.straps.storeEn := false }
    let down := { busy with tether.link := .down }
    let left := fun (s : State) => onNext (fun t => (t.tether, t.service, t.tetherQueue, t.serviceQueue)) (exec .restartReplyTimeout s)
    (busy.store.straps.wellFormed = true ∧ busy.tether.link = .up ∧ down.tether.link ≠ .up) ∧
    left busy = some ({ Tether.atReset busy.store.straps with link := .up, offered := .reduced },
      Service.atReset busy.store.straps, [], []) ∧
    left off = some ({ Tether.atReset off.store.straps with link := .up, offered := .reduced, sending := some ⟨0xF0, 0, [2#8]⟩ },
      Service.atReset off.store.straps, [], []) ∧
    left down = some (Tether.atReset down.store.straps, Service.atReset down.store.straps, [], []) := by
  refine ⟨?_, ?_, ?_, ?_⟩ <;> decide +kernel

theorem witness_ResetsLeaveResetState :
    Straps.wellFormed ⟨7, true, .reduced, true⟩ = true ∧ Straps.wellFormed ⟨0, false, .full, false⟩ = true := by decide +kernel

theorem witness_TransmitterTakesByRank :
    let s := { setupState with tether.sending := some aRecord }
    (s.tether.sending = some aRecord ∧ s.restartPending = none ∧ s.tether.link = .up ∧ s.warp.engine = .idle ∧
      s.warp.queue = []) ∧
    { s with tether.replies := [aRecord], tether.notices := [aRecord] }.tether.replies = [aRecord] ∧
    ({ s with tether.notices := [aRecord] }.tether.replies = [] ∧ { s with tether.notices := [aRecord] }.tether.notices = [aRecord]) ∧
    (let u := { s with tether.images := [aRecord] };
      u.tether.replies = [] ∧ u.tether.notices = [] ∧ u.tether.images = [aRecord]) ∧
    (s.tether.replies = [] ∧ s.tether.notices = [] ∧ s.tether.images = []) := by decide +kernel

/-- A full image queue of sixteen records that can be told apart, a record under way, and a warp whose record waits as given. -/
def fullQueue (e : Engine) (q : List WarpEntry) (w : WarpWait) (o : Option OwedEnd) : State :=
  { warping with
    tether.sending := some aRecord, tether.images := (List.range 16).map fun n => ⟨0xE1, n, []⟩, restartPending := some .service
    warp := ⟨q, e, w, 0, 0, false, false, o⟩, capture.skipA := 7 }

/-- What the transmitter sends next, the newest image record and its place, what waits and the engine. -/
def placed (s : State) : Option (Option Nat × Nat × Option Nat × WarpWait × Engine) :=
  onNext (fun t => (t.tether.sending.map (·.tag), t.tether.images.length, (t.tether.images.getLast?).map (·.kind),
    t.warp.waiting, t.warp.engine)) (exec .recordSent s)

/-- R110: a waiting FRAME BEGIN, TILE, last TILE or owed FRAME END takes the place that the transmitter frees. -/
theorem witness_TransmitterTakesByRank_places :
    let owed : OwedEnd := ⟨.a, 300, true, 2⟩
    let wide := { entryA with copy := { entryA.copy with width := 1 } }
    let begins := fullQueue .running [entryA] .frameBegin none
    (begins.tether.images.length = 16 ∧ begins.warp.discarding = false ∧ begins.restartPending ≠ some .tether ∧
      placed begins = some (some 0, 16, some 0xE0, .nothing, .running) ∧
      onNext (·.capture.skipA) (exec .recordSent begins) = some 0) ∧
    (0 + 1 < entryA.copy.width * entryA.copy.height ∧
      placed (fullQueue .running [entryA] (.tile aRecord) none) = some (some 0, 16, some 0x81, .nothing, .running)) ∧
    (wide.copy.width * wide.copy.height ≤ 0 + 1 ∧
      placed (fullQueue .running [wide] (.tile aRecord) none) = some (some 0, 16, some 0x81, .nothing, .closing)) ∧
    placed (fullQueue .closing [] .nothing (some owed)) = some (some 0, 16, some 0xE2, .nothing, .idle) ∧
    placed (fullQueue .closing [entryA] .nothing (some owed)) = some (some 0, 16, some 0xE2, .frameBegin, .running) := by
  refine ⟨⟨?_, ?_, ?_, ?_, ?_⟩, ⟨?_, ?_⟩, ⟨?_, ?_⟩, ?_, ?_⟩ <;> decide +kernel

/-- A running warp with nothing waiting, and a waiting one while a reply or a notice is taken. -/
theorem witness_TransmitterTakesByRank_warping :
    let s := { warping with tether.sending := some aRecord, tether.images := [aRecord] }
    let full := fullQueue .closing [] .nothing (some ⟨.a, 300, true, 2⟩)
    (s.warp.engine = .running ∧ s.warp.waiting = .nothing ∧
      onNext (fun t => (t.tether.sending, t.tether.images, t.warp)) (exec .recordSent s) = some (some aRecord, [], s.warp)) ∧
    (full.warp.engine ≠ .idle ∧ 16 ≤ full.tether.images.length ∧
      onNext (fun t => (t.tether.sending, t.tether.images.length, t.warp))
        (exec .recordSent { full with tether.notices := [aRecord] }) = some (some aRecord, 16, full.warp)) := by
  decide +kernel

theorem witness_LinkTrainsAndFails :
    State.reset.tether.link = .training ∧ { setupState with tether.link := .down }.tether.link = .down ∧
    (warping.tether.link = .up ∧ warping.restartPending ≠ some .tether ∧ warping.warp.engine ≠ .idle) ∧
    (let s := { warping with restartPending := some .tether };
      s.tether.link = .up ∧ s.restartPending = some .tether) ∧
    (runState.tether.link = .up ∧ runState.restartPending ≠ some .tether ∧ runState.warp.engine = .idle ∧
      runState.warp.queue = []) ∧
    (∀ l ∈ [[], [entryA]],
      let s := { warping with warp := ⟨l, .closing, .nothing, 2, 2, false, false, some ⟨.a, 300, true, 2⟩⟩ };
      s.tether.link = .up ∧ s.warp.engine = .closing ∧ s.warp.owed.isSome = true ∧ s.warp.queue = l) ∧
    (∀ d ∈ [false, true], let s := { warping with warp.discarding := d };
      s.tether.link = .up ∧ s.warp.engine = .running ∧ s.warp.queue = entryA :: [] ∧ s.warp.waiting = .nothing ∧
      s.warp.discarding = d ∧ entryA.purpose = .live) ∧
    (∀ n ∈ [0, 1], ∀ l ∈ [[], [entryA]],
      let s := { warping with warp := ⟨entryA :: l, .running, .tile aRecord, n, n, false, false, none⟩ };
      s.tether.link = .up ∧ s.warp.engine = .running ∧ s.warp.queue = entryA :: l ∧ s.warp.waiting = .tile aRecord ∧
      (s.warp.next + 1 < entryA.copy.width * entryA.copy.height ↔ n = 0)) := by decide +kernel

theorem witness_TimingRequestsApply :
    let good : List Nat := (List.range 16).map (· + 1)
    (setupState.serves byTether (.setTiming byTether (some 199) (some ⟨16, 0x8000⟩) (some 15)) ∧
      setupState.mode = .setup ∧ setupState.capture.pendingPeriod = none ∧ (0x8000).testBit 15 = true) ∧
    runState.serves byService (.setTiming byService none none none) ∧
    runState.serves byTether (.setTiming byTether (some 65535) (some ⟨1, 1⟩) (some 0)) ∧
    setupState.serves byTether (.setTiming byTether none none (some 16)) ∧
    setupState.serves byTether (.setTiming byTether none (some ⟨0, 1⟩) none) ∧
    setupState.serves byTether (.setTiming byTether none (some ⟨17, 1⟩) none) ∧
    (setupState.serves byTether (.setTiming byTether none (some ⟨4, 0xFFF0⟩) none) ∧
      ∀ k, k < 4 → (0xFFF0).testBit k = false) ∧
    (setupState.serves byTether (.writeExposureTable byTether good) ∧ (∀ k, k < 16 → 0 < good.getD k 0) ∧
      ∀ k, k < 15 → good.getD k 0 < good.getD (k + 1) 0) ∧
    (runState.serves byTether (.writeExposureTable byTether (good.set 0 0)) ∧ (good.set 0 0).getD 0 0 = 0) ∧
    (runState.serves byTether (.writeExposureTable byTether (good.set 15 15)) ∧
      (good.set 15 15).getD 15 0 ≤ (good.set 15 15).getD 14 0) := by
  decide +kernel

/-- RUN with slots 1 and 2 HELD with tag 5, slot 1 pinned, and slot 0 FILLING, pinned as given. -/
def pinning (pinned : Bool) : State :=
  { runState with
    slots := [⟨.filling, 6, pinned, 0, FrameRecord.none⟩, ⟨.held, 5, true, 0, FrameRecord.none⟩,
      ⟨.held, 5, false, 1, FrameRecord.none⟩, FrameSlot.atReset]
    held := [1, 2] }

theorem witness_PinsAndReleases :
    let s := pinning false
    let pinned := pinning true
    let allPinned := { s with slots := s.slots.modify 2 fun x => { x with pinned := true } }
    let nonePinned := { s with slots := s.slots.modify 1 fun x => { x with pinned := false } }
    let next := { s with nextPin := true }
    (next.serves byTether (.pinFrame byTether .next) ∧ next.nextPin = true) ∧
    (pinned.serves byTether (.pinFrame byTether .next) ∧ pinned.nextPin = false ∧ pinned.fillingSlot = some 0 ∧
      (pinned.slot 0).pinned = true) ∧
    (s.serves byTether (.pinFrame byTether .next) ∧ s.nextPin = false ∧ s.fillingSlot = some 0 ∧ (s.slot 0).pinned = false) ∧
    s.serves byTether (.pinFrame byTether (.tag 4096)) ∧
    (s.serves byTether (.pinFrame byTether (.tag 4095)) ∧ ∀ n ∈ s.held, (s.slot n).tag ≠ 4095) ∧
    (allPinned.serves byTether (.pinFrame byTether (.tag 5)) ∧ allPinned.heldWithTag 5 = [1, 2] ∧
      ∀ m ∈ [1, 2], (allPinned.slot m).pinned = true) ∧
    (s.serves byTether (.pinFrame byTether (.tag 5)) ∧ s.heldWithTag 5 = [1] ++ 2 :: [] ∧ (s.slot 1).pinned = true ∧
      (s.slot 2).pinned = false ∧ s.pins < 2 ∧ 2 ≤ pinned.pins) ∧
    s.serves byTether (.pinFrame byTether (.other 2)) ∧
    (next.serves byTether (.releaseFrame byTether .next) ∧ pinned.serves byTether (.releaseFrame byTether .next) ∧
      s.serves byTether (.releaseFrame byTether .next)) ∧
    (s.serves byTether (.releaseFrame byTether (.tag 4096)) ∧ s.serves byTether (.releaseFrame byTether (.tag 4095)) ∧
      s.serves byTether (.releaseFrame byTether (.other 255))) ∧
    (nonePinned.serves byTether (.releaseFrame byTether (.tag 5)) ∧ nonePinned.heldWithTag 5 = [1, 2] ∧
      ∀ m ∈ nonePinned.heldWithTag 5, (nonePinned.slot m).pinned = false) ∧
    (s.serves byTether (.releaseFrame byTether (.tag 5)) ∧ s.heldWithTag 5 = [] ++ 1 :: [2] ∧ 1 < s.slots.length ∧
      (s.slot 1).state = .held ∧ (s.slot 1).count = 0) ∧
    (let u := { s with slots := (s.slots.modify 1 fun x => { x with pinned := false }).modify 2 fun x => { x with pinned := true } };
      u.heldWithTag 5 = [1] ++ 2 :: [] ∧ (u.slot 1).pinned = false ∧ (u.slot 2).pinned = true ∧ (u.slot 2).state = .held ∧
      (u.slot 2).count ≠ 0) := by
  refine ⟨?_, ?_, ?_, ?_, ?_, ?_, ?_, ?_, ?_, ?_, ?_, ?_, ?_⟩ <;> decide +kernel

theorem witness_QueriesOnlyReply :
    setupState.serves byTether (.queryFrames byTether) ∧ runState.serves byTether (.queryFrames byTether) ∧
    runState.serves byService (.queryStatistics byService) ∧ runState.serves byTether (.queryViews byTether) ∧
    setupState.serves byTether (.queryBalance byTether) ∧ runState.serves byTether (.queryTrip byTether) ∧
    setupState.serves byService (.queryFaults byService) ∧ runState.serves byTether (.queryHead byTether) := by
  decide +kernel

theorem witness_FrameStarts :
    setupState.capture.mode = .stopped ∧ (exposing .lit).capture.mode = .exposing ∧
    (let s := { runState with nextPin := true, capture.tag := 4095 };
      s.capture.mode = .waiting ∧ s.firstFree = some 0 ∧
      onNext (fun t => t.capture.latestClass) (exec .frameStart s) = some (some .lit)) ∧
    (let s := { runState with slots := List.replicate 4 ⟨.held, 1, false, 1, FrameRecord.none⟩, viewA := boundView };
      s.firstFree = none ∧ s.viewA.active ≠ 0) ∧
    (reading .lit 1023).capture.mode = .readout ∧
    (((adoptViews wellBound).view .a).active = 1 ∧ ((adoptViews wellBound).view .a).activeBuffer = some 0 ∧
      ((adoptViews wellBound).view .b).active = 0) ∧
    ((wellBound.view .b).pending = .absent ∧ (wellWaiting.view .a).pending = .profile 2 .waiting ∧
      ((wellPending .building .building).view .a).pending = .profile 2 .building) ∧
    (let s := wellPending .ready .ready;
      (s.view .a).pending = .profile 2 .ready ∧ ((s.view .a).buffer 1).state = .ready) ∧
    (wellUnbind.view .a).pending = .unbind ∧ (defaultExposures.getD 0 0 ≤ 10 ∧ 9 < defaultExposures.getD 0 0) := by
  decide +kernel

theorem witness_ExposureEnds :
    let l := (List.replicate 12 0).set 5 4095
    (l.length = 12 ∧ (∀ n ∈ l, n ≤ 4095) ∧ runState.capture.mode ≠ .exposing) ∧
    (let s := exposing .darkPattern;
      s.capture.mode = .exposing ∧ s.capture.frame = some (frameOf .darkPattern) ∧ (frameOf .darkPattern).cls ≠ .lit) ∧
    (let s := { exposing .lit with sup.ring := .lockedOff };
      s.capture.frame = some (frameOf .lit) ∧ s.sup.ring ≠ .lit ∧ s.sup.ring ≠ .dim) ∧
    (let s := exposing .lit;
      s.capture.mode = .exposing ∧ s.capture.frame = some (frameOf .lit) ∧ (frameOf .lit).cls = .lit ∧ s.sup.ring = .lit ∧
      s.ring.channels.length = 12 ∧ s.ring.codes.length = 12 ∧ s.faults.entries.length = 12 ∧
      (l.getD 5 0 > (s.ring.channels.getD 5 Channel.atReset).limit) ∧
      (let c := s.ring.channels.getD 4 Channel.atReset
       c.enabled = true ∧ c.state = .normal ∧ 64 ≤ s.ring.codes.getD 4 0 ∧ l.getD 4 0 < s.sup.openLevel) ∧
      (onNext (fun t => (t.faults.entry .channelOpen).set) (exec (.exposureEnd l) s)) = some true) ∧
    (let s := { exposing .lit with sup.count := 2 };
      onNext (fun t => (t.sup.count, t.ring.state)) (exec (.exposureEnd l) s) = some (s.sup.dimCount, .dim)) ∧
    (let s := { exposing .lit with sup.count := 2, sup.offCount := 3 };
      s.sup.dimCount = 3 ∧ onNext (fun t => (t.sup.count, t.ring.state, t.sup.dimPart.isSome, (t.faults.entry .ringDimTrip).set))
        (exec (.exposureEnd l) s) = some (3, .lockedOff, true, true)) ∧
    (let s := { exposing .lit with sup.count := 9 };
      onNext (fun t => (t.sup.count, t.ring.state)) (exec (.exposureEnd l) s) = some (s.sup.offCount, .lockedOff)) := by
  decide +kernel

/-- A set over its total alone, which raises the count without a trip; the channel outputs in and out of a lit exposure. -/
theorem witness_ExposureEnds_total :
    let s := { exposing .lit with sup.total := 4094 }
    let m := (List.replicate 12 0).set 5 2000 |>.set 6 2000 |>.set 7 95
    (∀ k, k < 12 → m.getD k 0 ≤ (s.ring.channels.getD k Channel.atReset).limit) ∧ s.sup.total < m.sum ∧
    onNext (fun t => (t.sup.sample.map (·.cause), t.sup.count, t.ring.state, t.sup.dimPart)) (exec (.exposureEnd m) s) =
      some (some (some 12), 1, .lit, none) ∧
    (s.capture.mode = .exposing ∧ s.capture.frame = some (frameOf .lit) ∧ (frameOf .lit).cls = .lit ∧ s.ring.state = .lit) ∧
    runState.capture.mode ≠ .exposing := by
  decide +kernel

/-- A set without a trip: a channel found open in LIT and in DIM, the other codes staying, on safe states. -/
theorem witness_ExposureEnds_reports :
    let lit := { exposing .lit with ring.band := .normal }
    let dim := { lit with
      ring.state := .dim, sup.ring := .dim, ring.codes := List.replicate 12 64
      ring.channels := lit.ring.channels.map fun c => { c with dmin := 64 } }
    let l := (List.replicate 12 1000).set 4 0
    let codes := fun (t : State) => (t.ring.state, t.ring.codes)
    lit.ringSafe ∧ dim.ringSafe ∧
    onNext codes (exec (.exposureEnd l) lit) = some (.lit, (List.replicate 12 128).set 4 0) ∧
    onNext codes (exec (.exposureEnd l) dim) = some (.dim, (List.replicate 12 64).set 4 0) ∧
    onNext codes (exec (.exposureEnd (List.replicate 12 1000)) lit) = some (.lit, List.replicate 12 128) := by
  refine ⟨⟨⟨by decide +kernel, ?_⟩, ⟨by decide +kernel, ?_⟩, by decide +kernel, by decide +kernel, by decide +kernel,
    by decide +kernel⟩, ⟨⟨by decide +kernel, ?_⟩, ⟨by decide +kernel, ?_⟩, by decide +kernel, by decide +kernel,
    by decide +kernel, by decide +kernel⟩, by decide +kernel, by decide +kernel, by decide +kernel⟩
  · unfold Channel.ordered; decide +kernel
  · unfold codeAllowed; decide +kernel
  · unfold Channel.ordered; decide +kernel
  · unfold codeAllowed; decide +kernel

/-- A flat-field acquisition in flight, with its hold of the loop. -/
def flatBusy (s : State) : State :=
  { s with cal.acq := some ⟨.flat, 4, 1, 7, 2000, List.replicate 1024 0⟩, ring.flatHold := true }

/-- R61: the trips, the silence and the accepted inputs end a flat-field acquisition; a set that does not trip leaves it. -/
theorem witness_flat_acquisitions_end :
    let l := (List.replicate 12 1000).set 5 4095
    let trip := flatBusy { exposing .lit with sup.count := 2 }
    let silent := flatBusy { runState with head.transfer := some .read, head.retried := true }
    let removed := flatBusy { runState with
      head.transfer := some .read, head.leak := ⟨.inactive, none, false⟩, head.warm := ⟨.inactive, none, false⟩
      head.hot := ⟨.inactive, none, false⟩, head.present := ⟨.active, some (false, 5), true⟩ }
    let kinds := fun (t : State) => (t.cal.acq.isSome, t.ring.state, (t.tether.sending.toList ++ t.tether.notices).map (·.kind))
    (trip.ring.state = trip.sup.ring ∧ trip.faults.entries.length = 12 ∧ trip.tether.link = .up ∧
      trip.tether.notices.length ≤ 4 ∧ onNext kinds (exec (.exposureEnd l) trip) = some (false, .dim, [0xF3, 0xF1])) ∧
    onNext kinds (exec (.exposureEnd l) (flatBusy (exposing .lit))) = some (true, .lit, []) ∧
    (silent.head.retried = true ∧
      onNext kinds (exec (.inputReadEnd false ⟨false, false, false, false⟩ 0) silent) = some (false, .lockedOff, [0xF1, 0xF3])) ∧
    (removed.head.transfer = some .read ∧
      onNext kinds (exec (.inputReadEnd true ⟨false, false, false, false⟩ 10005) removed) = some (false, .absent, [0xF3, 0xF1])) := by
  decide +kernel

theorem witness_SensorRows :
    let l := List.replicate 1024 4095
    (l.length = 1024 ∧ ∀ p ∈ l, p ≤ 4095) ∧
    (let s := reading .lit 1023;
      s.capture.mode = .readout ∧ s.capture.frame = some (frameOf .lit) ∧ (frameOf .lit).cls = .lit ∧
      (frameOf .lit).slot = some 0 ∧ s.capture.rows < 1024 ∧ s.cond.acc = some noSums ∧ noSums.sums.length = 12 ∧
      noSums.counts.length = 12 ∧ noSums.hots.length = 12 ∧ noSums.zoneC.length = 1024) ∧
    runState.capture.mode ≠ .readout ∧
    (let s := reading .darkPattern 0;
      s.capture.frame = some (frameOf .darkPattern) ∧ (frameOf .darkPattern).cls ≠ .lit ∧ s.capture.rows < 1024 ∧
      s.capture.zoneSums.length = 1024) ∧
    (let f := { frameOf .lit with slot := none }
     let s := { reading .lit 1023 with capture.frame := some f };
      s.capture.mode = .readout ∧ s.capture.frame = some f ∧ f.cls = .lit ∧ f.slot = none ∧ s.cond.acc = some noSums) := by
  decide +kernel

theorem witness_PixelsAreConditioned :
    let s := { runState with cond.dark := List.replicate 1024 1023 }
    1023 < 1024 ∧ 4095 ≤ 4095 ∧ 1022 < s.cond.dark.getD (32 * (1023 / 32) + 1023 / 32) 0 ∧
    (∀ a, a ≤ 1 → ∀ b, b ≤ 1 → 1024 ≤ s.cond.gain.getD (33 * (1023 / 32 + b) + (1023 / 32 + a)) 0 ∧
      s.cond.gain.getD (33 * (1023 / 32 + b) + (1023 / 32 + a)) 0 ≤ 1024) ∧ 992 % 32 = 0 := by
  decide +kernel

theorem witness_ReadoutCompletionLit :
    let views : List ViewNote := [⟨.a, 1, 0, entryA.copy⟩]
    let s := reading .lit 1024
    let seen := { s with capture.frame := some { frameOf .lit with views := views } }
    let slotless := { s with capture.frame := some { frameOf .lit with slot := none } }
    let flat : Frame := { frameOf .lit with acq := some (.flat, 7) }
    let counting := fun frames => { s with
      capture.frame := some flat, cal.acq := some ⟨.flat, frames, 0, 7, 2000, List.replicate 1024 0⟩, ring.flatHold := true
      linkTether := some ⟨.gain, 0, 0, 1, 1⟩, linkService := some ⟨.dark, 0, 0, 1, 1⟩ }
    (s.capture.frame = some (frameOf .lit) ∧ s.cond.acc = some noSums ∧ s.capture.mode = .readout ∧ (frameOf .lit).cls = .lit ∧
      s.capture.rows = 1024 ∧ s.warp.engine = .idle ∧ s.warp.queue = [] ∧ (frameOf .lit).slot = some 0 ∧
      (frameOf .lit).views = [] ∧ 0 < s.slots.length ∧ (s.slot 0).pinned = false ∧ s.cal.acq = none) ∧
    (seen.capture.frame = some { frameOf .lit with views := views } ∧ views ≠ []) ∧
    (slotless.capture.frame = some { frameOf .lit with slot := none } ∧ slotless.capture.rows = 1024) ∧
    ((reading .lit 1023).capture.rows < 1024 ∧ (reading .lit 1023).cond.acc = some noSums) ∧
    ((counting 2).mode = .run ∧ (counting 2).capture.frame = some flat ∧ flat.acq = some (.flat, 7) ∧
      ((counting 2).cal.acq.map fun q => (q.kind, q.number, q.taken, q.frames)) = some (.flat, 7, 0, 2) ∧
      onNext (fun t => t.cal.acq.map (·.taken)) (exec .readoutCompletionLit (counting 2)) = some (some 1)) ∧
    onNext (fun t => (t.cal.acq.isSome, t.linkTether.isSome, t.linkService.isSome)) (exec .readoutCompletionLit (counting 1)) =
      some (false, false, true) ∧
    (let u := { counting 1 with capture.frame := some (frameOf .lit) };
      u.capture.frame = some (frameOf .lit) ∧ (frameOf .lit).acq ≠ some (.flat, 7)) ∧
    (seen.tether.link = .up ∧ seen.tether.images.length < 16 ∧ { seen with tether.link := .down }.tether.link ≠ .up ∧
      16 ≤ { seen with tether.images := List.replicate 16 aRecord }.tether.images.length) ∧
    (flat.acq = some (.flat, 7) ∧ (counting 1).capture.rows = 1024 ∧ (counting 1).warp.engine = .idle ∧
      onNext (fun t => t.tether.sending.map (·.kind)) (exec .readoutCompletionLit (counting 1)) = some (some 0xF3)) := by
  decide +kernel

/-- A frame completed while an earlier warp runs, waits for a place or closes: its entry joins the tail of the queue. -/
theorem witness_ReadoutCompletionLit_warping :
    let f := { frameOf .lit with views := [⟨.a, 1, 0, entryA.copy⟩] }
    let s := { reading .lit 1024 with capture.frame := some f }
    let full := (List.replicate 16 aRecord)
    let runs := { s with warp := ⟨[entryA], .running, .nothing, 0, 0, false, false, none⟩ }
    let waits := { runs with warp.waiting := .frameBegin, tether.images := full }
    let closes := { runs with warp.engine := .closing, warp.owed := some ⟨.a, 299, true, 2⟩, tether.images := full }
    let joins := fun (u : State) => onNext (fun t => (t.warp, t.tether)) (exec .readoutCompletionLit u) =
      some ({ u.warp with queue := u.warp.queue ++ [{ entryA with record := f.record }] }, u.tether)
    (runs.warp.waiting = .nothing ∧ joins runs) ∧ (16 ≤ waits.tether.images.length ∧ joins waits) ∧
    (closes.warp.discarding = false ∧ joins closes) := by
  decide +kernel

theorem witness_BalanceUpdateMovesCodes :
    let st : SectorStats := ⟨300, List.replicate 12 1, List.replicate 12 1700, List.replicate 12 0, 0, 0⟩
    let loop := { runState with ring.band := .normal, ring.balance := { Balance.atReset with loopMode := .loop } }
    setupState.ring.note ≠ some .lit ∧
    (runState.ring.note = some .lit ∧ runState.ring.state = .lit ∧ runState.ring.balance.loopMode = .manual) ∧
    { loop with ring.flatHold := true }.ring.flatHold = true ∧
    (loop.ring.note = some .lit ∧ loop.ring.state = .lit ∧ loop.ring.balance.loopMode = .loop ∧ loop.ring.flatHold = false ∧
      loop.ring.codes.sum ≤ loop.ring.effective ∧ loop.ring.glare.getD st.pattern .normal = .normal ∧
      loop.ring.channels.length = 12 ∧ loop.ring.codes.length = 12 ∧ (∀ c ∈ loop.ring.channels, c.dmin ≤ c.dmax) ∧
      (proposeCodes loop.ring st .normal).sum ≤ loop.ring.effective) ∧
    { loop with ring.glare := Ring.atReset.glare.set 0 .hold }.ring.glare.getD st.pattern .normal = .hold ∧
    { loop with ring.glare := Ring.atReset.glare.set 0 .shorten }.ring.glare.getD st.pattern .normal = .shorten ∧
    { loop with ring.glare := Ring.atReset.glare.set 0 .dimHot }.ring.glare.getD st.pattern .normal = .dimHot ∧
    (let low := { loop with
        ring.codes := List.replicate 12 512, ring.budget := 3072, capture.requested := 15
        ring.balance := { loop.ring.balance with autoExposure := true, margin := 0, deadband := 0 } };
      (balanceHandOver st low).ring.last = some ⟨300, .applied .normal true 0⟩ ∧
      (balanceHandOver st { low with capture.requested := 14 }).capture.requested = 15) ∧
    (let high := { loop with
        ring.codes := List.replicate 12 0, capture.requested := 0
        ring.balance := { loop.ring.balance with autoExposure := true, margin := 0, target := 1 } };
      (balanceHandOver st high).ring.last = some ⟨300, .applied .normal false 0⟩ ∧
      (balanceHandOver st { high with capture.requested := 1 }).capture.requested = 0) := by
  decide +kernel

/-- RUN at the completion of a dark frame that an acquisition of the given number of frames forced. -/
def acquiring (frames : Nat) : State :=
  { reading .darkAcquisition 1024 with
    cal.acq := some ⟨.dark, frames, 0, 3, 0, List.replicate 1024 0⟩
    capture.frame := some { frameOf .darkAcquisition with acq := some (.dark, 3) }
    linkTether := some ⟨.dark, 0, 0, 1, 1⟩, linkService := some ⟨.gain, 0, 0, 1, 1⟩ }

theorem witness_DarkFramesRefreshAndCount :
    (let s := reading .darkPattern 1024;
      s.mode = .run ∧ s.capture.mode = .readout ∧ s.capture.frame = some (frameOf .darkPattern) ∧ s.capture.rows = 1024 ∧
      s.cal.dark.length = 1024) ∧
    (let s := acquiring 1;
      s.mode = .run ∧ s.capture.frame = some { frameOf .darkAcquisition with acq := some (.dark, 3) } ∧
      (frameOf .darkAcquisition).cls = .darkAcquisition ∧ s.capture.rows = 1024 ∧
      (s.cal.acq.map (·.totals.length)) = some 1024 ∧ s.capture.zoneSums.length = 1024 ∧
      onNext (fun t => t.cal.acq) (exec .readoutCompletionDark s) = some none) ∧
    onNext (fun t => t.cal.acq.map (·.taken)) (exec .readoutCompletionDark (acquiring 2)) = some (some 1) ∧
    ({ acquiring 2 with capture.frame := some (frameOf .darkAcquisition) }.capture.frame.map (fun f : Frame => f.acq)) = some none := by
  decide +kernel

theorem witness_FlatFieldGains :
    (acquiredGain 64 4095 (List.replicate 1024 0)).getD (33 * 32 + 32) 0 = 4095 ∧
    (acquiredGain 1 2000 (List.replicate 1024 1024000)).getD 0 0 = 2048 := by decide +kernel

theorem witness_SensorTimeoutAbandons :
    let noted := fun (l : List View) => l.map fun v => (⟨v, 1, 0, entryA.copy⟩ : ViewNote)
    runState.capture.mode ≠ .readout ∧ ((reading .lit 5).capture.mode = .readout ∧
      (reading .lit 5).capture.frame = some (frameOf .lit) ∧ (frameOf .lit).slot = some 0 ∧ (frameOf .lit).views = []) ∧
    (∀ l ∈ [[View.a, .b], [.a], [.b]],
      let f := { frameOf .lit with views := noted l }
      let s := { reading .lit 5 with capture.frame := some f };
      s.capture.mode = .readout ∧ s.capture.frame = some f ∧ f.slot = some 0 ∧ f.views.map (·.view) = l) ∧
    ((reading .darkPattern 5).capture.frame = some (frameOf .darkPattern) ∧ (frameOf .darkPattern).slot = none) := by
  decide +kernel

theorem witness_WriteSectorMapReplaces :
    let l := List.replicate 1024 12
    (runState.serves byTether (.writeSectorMap byTether l) ∧ runState.mode = .run) ∧
    (setupState.serves byTether (.writeSectorMap byTether (l.set 1023 13)) ∧ 13 ∈ l.set 1023 13) ∧
    (setupState.serves byTether (.writeSectorMap byTether (l.set 1023 11)) ∧ setupState.mode = .setup ∧
      ∀ k ∈ l.set 1023 11, k ≤ 12) := by
  decide +kernel

theorem witness_SettingsRequestsReplace :
    let b : BalanceArg := ⟨1, 4095, 4095, 1023, 4095, 4095, 1, 4095, 4095⟩
    setupState.serves byTether (.writeStatisticsSettings byTether 4095 1) ∧
    setupState.serves byTether (.writeStatisticsSettings byTether 4096 0) ∧
    runState.serves byTether (.setDarkRefresh byTether 1 7) ∧ runState.serves byTether (.setDarkRefresh byTether 2 8) ∧
    setupState.serves byTether (.setProfileLimit byTether 32) ∧ setupState.serves byTether (.setProfileLimit byTether 0) ∧
    setupState.serves byTether (.writeBalanceSettings byTether b) ∧
    setupState.serves byTether (.writeBalanceSettings byTether { b with slew := 0 }) ∧
    setupState.serves byTether (.writeSupervisionLimits byTether 49140 255 255 4095) ∧
    setupState.serves byTether (.writeSupervisionLimits byTether 49141 2 1 4096) ∧
    runState.serves byTether (.writeSupervisionLimits byTether 0 1 1 0) := by
  decide +kernel

theorem witness_TableSegmentsReplace :
    let l := List.replicate 256 255
    let g := List.replicate 256 3
    runState.serves byTether (.writeToneSegment byTether 0 l) ∧ setupState.serves byTether (.writeToneSegment byTether 16 l) ∧
    (let s := { setupState with warp := { warping.warp with queue := [{ entryA with copy := { entryA.copy with format := .tone8 } }] } };
      s.serves byTether (.writeToneSegment byTether 15 l) ∧ ∃ e ∈ s.warp.queue, e.copy.format = .tone8) ∧
    (setupState.serves byTether (.writeToneSegment byTether 15 l) ∧ setupState.mode = .setup ∧
      (∀ e ∈ setupState.warp.queue, e.copy.format ≠ .tone8) ∧ setupState.cond.tone.length = 4096) ∧
    runState.serves byService (.writeGlareTable byService 0 g) ∧ setupState.serves byService (.writeGlareTable byService 16 g) ∧
    (setupState.serves byService (.writeGlareTable byService 15 (g.set 255 4)) ∧ 4 ∈ g.set 255 4) ∧
    (setupState.serves byService (.writeGlareTable byService 15 g) ∧ (∀ n ∈ g, n ≤ 3) ∧ setupState.ring.glare.length = 4096) := by
  decide +kernel

/-- The last entry of the gain map. -/
def corner : RegionArg := ⟨1, 32, 32, 1, 1⟩

/-- The last entry of the dark map. -/
def darkCorner : RegionArg := ⟨0, 31, 31, 1, 1⟩

theorem witness_MapRegionReads :
    setupState.serves byTether (.readMapRegion byTether corner) ∧ runState.serves byService (.readMapRegion byService darkCorner) ∧
    setupState.serves byTether (.readMapRegion byTether ⟨0, 0, 0, 16, 17⟩) ∧
    setupState.serves byTether (.readMapRegionLinked byTether corner) ∧
    runState.serves byService (.readMapRegionLinked byService ⟨0, 32, 0, 1, 1⟩) := by
  decide +kernel

theorem witness_WriteMapRegionWrites :
    (runState.serves byTether (.writeMapRegion byTether corner [0]) ∧ runState.mode = .run) ∧
    setupState.serves byTether (.writeMapRegion byTether ⟨2, 0, 0, 1, 1⟩ [0]) ∧
    setupState.serves byTether (.writeMapRegion byTether ⟨0, 0, 0, 0, 1⟩ []) ∧
    (let s := { setupState with linkTether := some ⟨.gain, 31, 31, 2, 2⟩, linkService := some ⟨.dark, 31, 31, 1, 1⟩ };
      s.serves byTether (.writeMapRegion byTether corner [65535]) ∧ s.serves byTether (.writeMapRegion byTether darkCorner [1024]) ∧
      s.mode = .setup ∧ s.cal.dark.length = 1024 ∧ s.cal.gain.length = 1089) := by
  decide +kernel

theorem witness_ConditionalWriteNeedsLink :
    let link : MapLink := ⟨.gain, 32, 32, 1, 1⟩
    let s := { setupState with linkTether := some link, linkService := some link }
    setupState.serves byTether (.writeMapRegionConditional byTether ⟨1, 33, 0, 1, 1⟩ [0]) ∧
    (setupState.serves byTether (.writeMapRegionConditional byTether corner [0]) ∧ setupState.mapLink .tether ≠ some link) ∧
    (s.serves byTether (.writeMapRegionConditional byTether corner [4096]) ∧ s.mapLink byTether.port = some link ∧
      s.mode = .setup ∧ link.indices = [1088] ∧ 1088 < (s.workingMap .gain).length) ∧
    { s with mode := .run }.serves byService (.writeMapRegionConditional byService corner [0]) := by
  decide +kernel

theorem witness_AcquisitionsStartAndAbort :
    let busy := { runState with cal.acq := some ⟨.flat, 64, 63, 255, 4095, List.replicate 1024 0⟩ }
    runState.serves byTether (.startDarkAcquisition byTether 64) ∧ runState.serves byTether (.startDarkAcquisition byTether 0) ∧
    setupState.serves byTether (.startDarkAcquisition byTether 1) ∧ busy.serves byTether (.startDarkAcquisition byTether 1) ∧
    runState.serves byTether (.startFlatFieldAcquisition byTether 64 4095) ∧
    runState.serves byTether (.startFlatFieldAcquisition byTether 3 0) ∧
    { runState with ring.state := .dim }.serves byTether (.startFlatFieldAcquisition byTether 1 1) ∧
    (runState.serves byTether (.abortAcquisition byTether) ∧ runState.cal.acq = none) ∧
    (busy.serves byTether (.abortAcquisition byTether) ∧ busy.cal.acq.isSome = true) := by
  decide +kernel

theorem witness_ProfilesWriteAndRead :
    let d : ProfileArg := ⟨1, 0, 0, 64, 16, -4096, 4095, 0, -32768, 32767, 1023, 7, 64, 4095, 1, 4⟩
    let s := { setupState with table := tableWith .none }
    let owned := { s with table.profiles := s.table.profiles.set 31 { smallProfile with level := .protectedLevel } }
    s.serves byTether (.writeProfile byTether 0 d) ∧ s.serves byTether (.writeProfile byTether 32 d) ∧
    (owned.serves byTether (.writeProfile byTether 31 d) ∧ (owned.profile 31).level = .protectedLevel ∧ 31 < owned.table.limit) ∧
    s.serves byTether (.writeProfile byTether 1 { d with level := 1 }) ∧
    (let u := { setupState with table := tableWith .aActive };
      u.serves byService (.writeProfile byService 1 d) ∧ (u.profile 1).mark ≠ .none) ∧
    (s.serves byTether (.writeProfile byTether 31 d) ∧ (s.profile 31).mark = .none ∧ (s.profile 31).level = .openLevel) ∧
    (owned.serves byService (.writeProfile byService 31 { d with level := 1, kind := 1, startAngle := 4095 })) ∧
    s.serves byService (.writeProfile byService 31 { d with present := 2 }) ∧
    s.serves byService (.writeProfile byService 31 { d with height := 17 }) ∧
    s.serves byService (.writeProfile byService 31 { d with present := 0, level := 1 }) ∧
    (s.serves byTether (.readProfile byTether 32) ∧ s.serves byTether (.readProfile byTether 0) ∧
      s.serves byTether (.readProfile byTether 31)) := by
  decide +kernel

theorem witness_RadialTablesWriteAndRead :
    let l := List.replicate 65 32767
    let held := { setupState with table.holds := List.replicate 8 1 }
    setupState.serves byTether (.writeRadialTable byTether 8 l) ∧ setupState.serves byTether (.writeRadialTable byTether 3 l) ∧
    (held.serves byTether (.writeRadialTable byTether 4 l) ∧ held.hold 4 ≠ 0) ∧
    (setupState.serves byTether (.writeRadialTable byTether 7 (l.set 64 32768)) ∧ 32768 ∈ l.set 64 32768 ∧ setupState.hold 7 = 0) ∧
    (runState.serves byService (.writeRadialTable byService 0 l) ∧ runState.hold 0 = 0 ∧ ∀ e ∈ l, e ≤ 32767) ∧
    runState.serves byTether (.readRadialTable byTether 7) ∧ setupState.serves byService (.readRadialTable byService 8) := by
  decide +kernel

theorem witness_BindViewDecides :
    let s := { runState with table := tableWith .none }
    let marked := { s with table := tableWith .bActive }
    let unroll := { s with table.profiles := s.table.profiles.set 31 { smallProfile with kind := .unroll } }
    let bound := { s with table.profiles := s.table.profiles.set 1 { smallProfile with mark := .aActive }, viewA := boundView }
    let on := fun (s : State) (slot n : Nat) => s.serves byTether (.bindView byTether slot n)
    on s 2 1 ∧ on s 1 32 ∧ ((runState.profile 31).present = false ∧ on runState 0 31) ∧
    (on unroll 0 31 ∧ (unroll.profile 31).present = true ∧ (unroll.profile 31).kind = .unroll ∧ on unroll 1 31) ∧
    (on marked 0 1 ∧ (marked.profile 1).mark = .bActive ∧ (marked.profile 1).kind = .radial) ∧
    (on bound 0 1 ∧ 1 = (bound.view .a).active ∧ (bound.view .a).pending = .absent ∧ (bound.profile 1).mark = .aActive) ∧
    (let u := { bound with viewA := { boundView with pending := .unbind } };
      on u 0 1 ∧ (u.view .a).pending = .unbind) ∧
    (let u := { bound with viewA := { boundView with pending := .profile 2 .waiting } };
      on u 0 2 ∧ 2 ≠ (u.view .a).active ∧ (u.view .a).pending = .profile 2 .waiting ∧ (u.profile 2).mark = .none) ∧
    (let u := wellPending .ready .ready;
      on u 0 1 ∧ 1 = (u.view .a).active ∧ (u.view .a).pending = .profile 2 .ready ∧ (u.profile 1).mark = .aActive) := by
  decide +kernel

/-- Bind View of profile `n` meets the hypotheses of a new pending change, those of viewsWell apart. -/
def binds (s : State) (v : View) (n : Nat) : Bool :=
  decide (s.serves byTether (.bindView byTether v.code n)) && decide (n ≠ 0 ∧ n < s.table.limit) && (s.profile n).present &&
  decide ((s.profile n).kind = .radial ∧ (s.profile n).mark = .none ∧ n ≠ (s.view v).active) &&
  decide ((s.view v).pendingSelector ≠ some n)

theorem witness_BindViewChangesSlot :
    (wellBound.viewsWell ∧ binds wellBound .a 3 = true ∧ binds wellBound .b 3 = true ∧ (wellBound.view .a).pending = .absent) ∧
    (wellUnbind.viewsWell ∧ binds wellUnbind .a 3 = true ∧ (wellUnbind.view .a).pending = .unbind) ∧
    (wellWaiting.viewsWell ∧ binds wellWaiting .a 3 = true ∧ (wellWaiting.view .a).pending = .profile 2 .waiting) ∧
    ((wellPending .ready .ready).viewsWell ∧ binds (wellPending .ready .ready) .a 3 = true) ∧
    (wellBound.serves byTether (.bindView byTether (View.code .b) 0) ∧ (wellBound.view .b).active = 0) ∧
    ((wellPending .building .building).viewsWell ∧
      (wellPending .building .building).serves byTether (.bindView byTether (View.code .a) 0) ∧
      ((wellPending .building .building).view .a).active ≠ 0 ∧ (wellPending .building .building).mode = .run) ∧
    (wellSetup.viewsWell ∧ wellSetup.serves byTether (.bindView byTether (View.code .a) 0) ∧ wellSetup.mode = .setup ∧
      (wellSetup.view .a).active ≠ 0) :=
  ⟨⟨wellBound_well.2, by decide +kernel⟩, ⟨wellUnbind_views, by decide +kernel⟩, ⟨wellWaiting_well.2, by decide +kernel⟩,
    ⟨wellReady_views, by decide +kernel⟩, by decide +kernel, ⟨wellBuilding_views, by decide +kernel⟩,
    ⟨wellSetup_views, by decide +kernel⟩⟩

theorem witness_BuildsFillMeshes :
    let s := wellPending .building .building
    let p := { smallProfile with ocx := 514, ocy := 536 }
    let o := { smallProfile with ocx := 0, ocy := 0 }
    (setupState.view .a).pending = .absent ∧
    ((s.view .a).pending = .profile 2 .building ∧ ((s.view .a).buffer 1).state = .building ∧
      ((s.view .a).buffer 0).state ≠ .building ∧ s.mode = .run) ∧
    ((wellSetup.view .a).pending = .profile 2 .building ∧ ((wellSetup.view .a).buffer 1).state = .building ∧
      ((wellSetup.view .a).buffer 0).state ≠ .building ∧ wellSetup.mode ≠ .run) ∧
    4 < 2 * smallProfile.width + 1 ∧ 2 < 2 * smallProfile.height + 1 ∧
    (p.kind = .radial ∧ p.step = 16 ∧ 1 ≤ p.width ∧ (800 ^ 2 : Int) ≤ 256 * ((544 - p.ocx) ^ 2 + (576 - p.ocy) ^ 2) ∧
      256 * ((544 - p.ocx) ^ 2 + (576 - p.ocy) ^ 2) < (801 ^ 2 : Int) ∧ 800 / 256 ≤ 63) ∧
    (256 * ((514 - p.ocx) ^ 2 + (536 - p.ocy) ^ 2) = 0 ∧
      (16384 ^ 2 : Int) = 256 * ((1024 - o.ocx) ^ 2 + (0 - o.ocy) ^ 2) ∧ 16384 / 256 = 64 ∧ 16384 % 256 = 0) ∧
    ((32768 ^ 2 : Int) = 256 * ((2048 - o.ocx) ^ 2 + (0 - o.ocy) ^ 2) ∧ 63 < 32768 / 256 ∧ 32768 / 256 ≠ 64) ∧
    ({ p with kind := .unroll }.kind = .unroll ∧ 16 * 1024 = 64 * (16 * p.step)) := by
  decide +kernel

theorem witness_ReviewFrameReviews :
    let s := { pinning false with table := tableWith .aActive, viewA := boundView }
    let on := fun (s : State) (t v : Nat) => s.serves byTether (.reviewFrame byTether t v)
    let two := [{ entryA with purpose := .review }, { entryA with purpose := .review }]
    on s 5 2 ∧ on s 4096 0 ∧ (on s 4095 0 ∧ ∀ n ∈ s.held, (s.slot n).tag = 4095 → (s.slot n).pinned = false) ∧
    (on s 5 1 ∧ (∃ n ∈ s.held, (s.slot n).tag = 5 ∧ (s.slot n).pinned = true) ∧ (s.view .b).active = 0 ∧
      (s.view .b).pending = .absent) ∧
    (let u := { s with viewB := { s.viewB with pending := .profile 2 .waiting } };
      on u 5 1 ∧ (u.view .b).pending = .profile 2 .waiting) ∧
    (let u := { s with warp := { warping.warp with queue := two } };
      on u 5 0 ∧ (u.view .a).active ≠ 0 ∧ 2 ≤ (u.warp.queue.filter (·.purpose == .review)).length) ∧
    (on s 5 (View.code .a) ∧ s.held = [] ++ 1 :: [2] ∧ (s.slot 1).tag = 5 ∧ (s.slot 1).pinned = true ∧
      (s.view .a).active ≠ 0 ∧ (s.view .a).activeBuffer = some 0 ∧ s.warp.engine = .idle ∧ s.warp.queue = []) ∧
    (let u := { s with warp := warping.warp };
      on u 5 (View.code .a) ∧ u.warp.engine = .running ∧ u.warp.waiting = .nothing ∧
      (u.warp.queue.filter (·.purpose == .review)).length < 2) := by
  decide +kernel

/-- A review behind a record that waits for a place, and one that begins with the link down or with no place free. -/
theorem witness_ReviewFrameReviews_begins :
    let s := { pinning false with table := tableWith .aActive, viewA := boundView }
    let on := fun (s : State) => s.serves byService (.reviewFrame byService 5 (View.code .a))
    let full := List.replicate 16 aRecord
    (let u := { s with warp := { warping.warp with waiting := .frameBegin }, tether.images := full };
      on u ∧ u.warp.engine = .running ∧ 16 ≤ u.tether.images.length) ∧
    (let u := { s with
        warp := ⟨[], .closing, .nothing, 2, 2, false, false, some ⟨.a, 300, true, 2⟩⟩, tether.images := full };
      on u ∧ u.warp.engine = .closing ∧ u.warp.discarding = false ∧ 16 ≤ u.tether.images.length) ∧
    (let u := { s with tether.link := .down };
      on u ∧ u.warp.engine = .idle ∧ u.warp.queue = [] ∧ u.tether.link ≠ .up) ∧
    (let u := { s with tether.images := full };
      on u ∧ u.warp.engine = .idle ∧ u.tether.link = .up ∧ 16 ≤ u.tether.images.length) := by
  decide +kernel

theorem witness_WarpTilesComplete :
    let full := { warping with tether.images := List.replicate 16 aRecord }
    let last := fun (queued : List WarpEntry) (places : Nat) => { wellBound with
      warp := { warping.warp with queue := entryA :: queued, next := 1, placed := 1 }
      tether.images := List.replicate (16 - places) aRecord, tether.sending := some aRecord }
    runState.warp.engine ≠ .running ∧
    (warping.warp.engine = .running ∧ warping.warp.waiting = .nothing ∧ warping.warp.queue = entryA :: [] ∧
      warping.badWords = [] ∧ warping.warp.next + 1 < entryA.copy.width * entryA.copy.height ∧
      warping.warp.discarding = false ∧ warping.tether.images.length < 16) ∧
    16 ≤ full.tether.images.length ∧ { warping with warp.discarding := true }.warp.discarding = true ∧
    ((last [] 2).warp.queue = entryA :: [] ∧ (last [] 2).badWords = [] ∧ (last [] 2).tether.images.length < 15 ∧
      entryA.copy.width * entryA.copy.height ≤ (last [] 2).warp.next + 1) ∧
    ((last [entryA] 3).warp.queue = entryA :: entryA :: [] ∧ (last [entryA] 3).tether.images.length < 14 ∧
      (last [entryA] 3).tether.link = .up) ∧
    ((last [entryA] 1).tether.images.length = 15 ∧ (last [entryA] 1).tether.sending ≠ none) ∧
    { last [] 2 with warp.discarding := true }.warp.discarding = true ∧
    (let s := { last [entryA] 3 with warp.discarding := true };
      s.warp.discarding = true ∧ s.warp.queue = entryA :: entryA :: [] ∧ s.tether.link = .up ∧ s.tether.images.length < 16 ∧
      { s with tether.link := .down }.tether.link ≠ .up) ∧
    (∀ w ∈ [0, 1048575], w < 1048576) ∧
    (∀ v ∈ [255, 4095], (List.replicate 1024 v).length = 1024 ∧ ∀ x ∈ List.replicate 1024 v, x ≤ v) := by
  decide +kernel

theorem witness_LevelsSampleSource :
    let e := { entryA with copy := { entryA.copy with radius := 0 } }
    let flat : Mesh := ⟨List.replicate 4 ⟨16368, 16368, true⟩, 2⟩
    let out : Mesh := ⟨List.replicate 4 ⟨16369, 0, true⟩, 2⟩
    warping.badWords = [] ∧ (warping.levelAt e flat 0 0).2 = 0 ∧
    sourcePosition flat e.copy 15 15 = some (16368, 16368) ∧ sourcePosition out e.copy 0 0 = none ∧
    sourcePosition ⟨[⟨0, 0, false⟩], 2⟩ e.copy 0 0 = none ∧
    (let s := { warping with
      frameStore := [(pixelPlace 0 1023 1023, 9)], badWords := [pixelPlace 0 1023 1023 / 4, pixelPlace 0 0 0 / 4] };
      (warping.levelAt e flat 0 0).1 = 0 ∧ s.levelAt e flat 0 0 = (0, 1) ∧
      { s with badWords := [] }.levelAt e flat 0 0 = (9, 0)) := by
  decide +kernel

theorem witness_ImageRecordTakesPlace :
    let full := { warping with tether.images := List.replicate 16 aRecord }
    let last := fun (queued : List WarpEntry) (places : Nat) => { wellBound with
      warp := { warping.warp with queue := entryA :: queued, waiting := .tile aRecord, next := 1, placed := 1 }
      tether.images := List.replicate (16 - places) aRecord, tether.sending := some aRecord }
    (full.warp.discarding = false ∧ 16 ≤ full.tether.images.length ∧ full.warp.engine ≠ .idle) ∧
    (let s := { warping with warp.waiting := .frameBegin };
      s.tether.images.length < 16 ∧ s.warp.engine = .running ∧ s.warp.queue = entryA :: [] ∧ s.warp.waiting = .frameBegin) ∧
    (let s := { warping with warp.waiting := .tile aRecord };
      s.warp.waiting = .tile aRecord ∧ s.warp.next + 1 < entryA.copy.width * entryA.copy.height) ∧
    ((last [] 2).warp.engine = .running ∧ (last [] 2).warp.queue = entryA :: [] ∧ (last [] 2).warp.waiting = .tile aRecord ∧
      entryA.copy.width * entryA.copy.height ≤ (last [] 2).warp.next + 1 ∧ (last [] 2).tether.images.length < 15) ∧
    ((last [entryA] 3).warp.queue = entryA :: entryA :: [] ∧ (last [entryA] 3).tether.images.length < 14 ∧
      (last [entryA] 3).tether.link = .up) ∧
    ((last [entryA] 1).tether.images.length = 15 ∧ (last [entryA] 1).tether.sending ≠ none) ∧
    (let s := { warping with warp := ⟨[], .closing, .nothing, 0, 0, false, false, some ⟨.a, 300, true, 2⟩⟩ };
      s.warp.engine = .closing ∧ s.warp.owed = some ⟨.a, 300, true, 2⟩ ∧ s.warp.queue = []) ∧
    (let s := { warping with
        warp := ⟨[entryA], .closing, .nothing, 0, 0, false, false, some ⟨.a, 300, false, 2⟩⟩
        tether.images := List.replicate 14 aRecord };
      s.tether.images.length < 15 ∧ s.tether.link = .up ∧ s.warp.engine = .closing ∧ s.warp.queue = entryA :: []) := by
  decide +kernel

theorem witness_ChannelAndBudgetReplace :
    let c : ChannelArg := ⟨1, 1023, 1023, 1023, 4095⟩
    runState.serves byTether (.writeChannelTable byTether 11 c) ∧ setupState.serves byTether (.writeChannelTable byTether 12 c) ∧
    setupState.serves byTether (.writeChannelTable byTether 11 { c with enabled := 2 }) ∧
    setupState.serves byTether (.writeChannelTable byTether 11 c) ∧
    runState.serves byTether (.writeRingBudget byTether 0) ∧ setupState.serves byTether (.writeRingBudget byTether 12277) ∧
    setupState.serves byTether (.writeRingBudget byTether 12276) := by
  decide +kernel

theorem witness_BudgetStepKeepsBudget :
    let r := { Ring.atReset with channels := List.replicate 12 { Channel.atReset with dmin := 100 }, budget := 1200 }
    let p := (List.replicate 12 100).set 11 1023
    (r.channels.length = 12 ∧ p.length = 12 ∧ r.effective < p.sum ∧ ∀ k, k < 12 →
      (r.channels.getD k Channel.atReset).usable = true ∧ (r.channels.getD k Channel.atReset).dmin ≤ p.getD k 0) ∧
    (List.replicate 12 100).sum ≤ r.effective := by
  decide +kernel

theorem witness_SetDriveSettlesCodes :
    let l := List.replicate 12 65535
    setupState.serves byTether (.setDrive byTether l) ∧
    (let s := { runState with ring.balance := { Balance.atReset with loopMode := .loop } };
      s.serves byTether (.setDrive byTether l) ∧ s.ring.balance.loopMode = .loop) ∧
    (let s := { runState with cal.acq := some ⟨.flat, 1, 0, 1, 1, []⟩ };
      s.serves byTether (.setDrive byTether l) ∧ (s.cal.acq.map (·.kind)) = some .flat) ∧
    (runState.serves byTether (.setDrive byTether l) ∧ runState.mode = .run ∧ runState.ring.balance.loopMode = .manual ∧
      runState.ring.state = .lit ∧ runState.cal.acq = none ∧ runState.ring.channels.length = 12 ∧
      ∀ c ∈ runState.ring.channels, c.dmin ≤ c.dmax) := by
  decide +kernel

theorem witness_RaiseSetsFault :
    runState.faults.entries.length = 12 ∧ (runState.faults.entry .linkLost).set = false ∧
    ((raise .linkLost runState).faults.entry .linkLost).set = true := by decide +kernel

theorem witness_FaultRequestsChangeTable :
    let s := withFaults runState [.linkLost, .headHot]
    let p := List.replicate 12 (⟨2, 1⟩ : PolicyArg)
    (s.serves byTether (.clearFaults byTether [0, 12]) ∧ s.faults.entries.length = 12) ∧
    (s.serves byTether (.clearFaults byTether (List.range 12)) ∧ (∀ n ∈ List.range 12, n ≤ 11) ∧
      (s.faults.entry .linkLost).set = true) ∧
    s.serves byTether (.clearFaults byTether []) ∧
    s.serves byTether (.setFaultPolicy byTether p 2) ∧ s.serves byTether (.setFaultPolicy byTether (p.set 11 ⟨3, 0⟩) 1) ∧
    (s.serves byTether (.setFaultPolicy byTether p 1) ∧ ∀ x ∈ p, x.severity ≤ 2 ∧ x.mask ≤ 1) := by
  decide +kernel

theorem witness_HeadTransfersRun :
    let idle := { runState with head.transfer := none }
    (idle.head.transfer = none ∧ idle.head.interrupt = false ∧ idle.head.silent = false) ∧
    { idle with head.interrupt := true }.head.interrupt = true ∧
    ((idle.head.line .leak).timer = false ∧ ({ idle with head.leak.timer := true }.head.line .leak).timer = true) ∧
    (let s := { runState with head.transfer := some (.supplyWrite true), head.pendingWrite := some false };
      s.head.transfer = some (.supplyWrite true) ∧ s.head.silent = false ∧ s.head.retried = false) ∧
    runState.head.transfer = some (.setUp false) ∧ { runState with head.transfer := some .read }.head.transfer = some .read ∧
    (∀ x ∈ [Transfer.read, .supplyWrite false, .setUp false],
      let s := { runState with head.transfer := some x, head.silent := true, head.pendingRead := true };
      s.head.transfer = some x ∧ s.head.silent = true) := by
  decide +kernel

theorem witness_SilenceLocksRing :
    let s := { runState with head.transfer := some .read, head.retried := true }
    s.head.transfer = some .read ∧ s.head.silent = false ∧ s.head.retried = true ∧ s.ring.state = .lit ∧
    { setupState with head.retried := true }.head.transfer = some (.setUp false) ∧ setupState.ring.state = .off ∧
    { s with ring.state := .lockedOff }.ring.state = .lockedOff ∧
    { s with head.transfer := some (.supplyWrite true) }.head.transfer = some (.supplyWrite true) := by
  decide +kernel

theorem witness_ReadAcceptsInputs :
    let s := { runState with head.transfer := some .read, head.leak.candidate := some (true, 5) }
    let v : InputValues := ⟨true, false, true, false⟩
    let reads := fun (l : InputLine) (hot present : InputLine) (x : RingState) (trip : TripLevel) =>
      { runState with
        head.transfer := some .read, head.leak := ⟨.inactive, none, false⟩, head.warm := l, head.hot := hot
        head.present := present, ring.state := x, ring.trip := trip }
    let idle : InputLine := ⟨.inactive, none, false⟩
    let due := fun (a : Accepted) (b : Bool) => (⟨a, some (b, 5), true⟩ : InputLine)
    s.head.transfer = some .read ∧ s.faults.entries.length = 12 ∧ { s with head.silent := true }.head.silent = true ∧
    s.head.leak.accepted ≠ .active ∧
    onNext (fun t => (t.head.leak.accepted, t.ring.state)) (exec (.inputReadEnd true v 10005) s) =
      some (if readValue v .leak = true then (.active, .lockedOff) else (.inactive, .lit)) ∧
    onNext (fun t => t.head.leak.accepted) (exec (.inputReadEnd true v 10004) s) = some .inactive ∧
    onNext (fun t => (t.ring.band, t.ring.state, (t.faults.entry .headHot).set))
      (exec (.inputReadEnd true ⟨false, false, true, true⟩ 10005) (reads idle (due .inactive true) ⟨.active, none, false⟩ .lit .none)) =
      some (.hot, .lit, true) ∧
    onNext (fun t => (t.ring.band, (t.faults.entry .headHot).set))
      (exec (.inputReadEnd true ⟨false, true, false, true⟩ 10005) (reads (due .inactive true) idle ⟨.active, none, false⟩ .lit .none)) =
      some (.warm, false) ∧
    onNext (fun t => (t.ring.state, (t.faults.entry .ringAbsent).set))
      (exec (.inputReadEnd true ⟨false, false, false, false⟩ 10005) (reads idle idle (due .active false) .lit .none)) =
      some (.absent, true) ∧
    onNext (fun t => t.ring.state)
      (exec (.inputReadEnd true ⟨false, false, false, true⟩ 10005) (reads idle idle (due .inactive true) .absent .none)) = some .lit ∧
    onNext (fun t => t.ring.state)
      (exec (.inputReadEnd true ⟨false, false, false, true⟩ 10005) (reads idle idle (due .inactive true) .absent .one)) = some .dim ∧
    onNext (fun t => t.ring.state)
      (exec (.inputReadEnd true ⟨false, false, false, true⟩ 10005) (reads idle idle (due .inactive true) .lockedOff .two)) =
      some .lockedOff := by
  decide +kernel

theorem witness_StoreOperationsRun :
    let l := List.replicate 256 0x5A#8
    let busy := { setupState with store.op := some (.pageWrite 2047 l) }
    setupState.serves byTether (.storeWritePage byTether 0 l) ∧ runState.serves byService (.storeWritePage byService 0 l) ∧
    setupState.serves byService (.storeWritePage byService 2047 l) ∧ setupState.serves byService (.storeWritePage byService 2048 l) ∧
    busy.serves byService (.storeWritePage byService 0 l) ∧ runState.serves byTether (.storeReadPage byTether 2047) ∧
    busy.serves byTether (.storeReadPage byTether 2048) ∧ setupState.serves byTether (.storeCheck byTether) ∧
    busy.serves byTether (.storeCheck byTether) ∧
    (busy.store.op = some (.pageWrite 2047 l) ∧ l.length = 256) ∧
    { setupState with store.op := some (.check byService) }.store.op = some (.check byService) ∧ setupState.store.op = none := by
  decide +kernel

/-- What follows an acknowledged read: the write that a leak asks for, a pending write, a pending read, nothing; and the set-up write
that ends a silence. -/
theorem witness_ReadAcceptsInputs_transfers :
    let reading := { runState with head.transfer := some .read, head.leak.candidate := some (true, 5) }
    let shown := fun (s : State) (start : Nat) => onNext (fun t => (t.head.transfer, t.head.pendingWrite, t.head.pendingRead))
      (exec (.inputReadEnd true ⟨true, false, false, true⟩ start) s)
    (reading.head.leak.accepted ≠ .active ∧ reading.ring.demand = true ∧ reading.ring.state = .lit ∧
      reading.head.silent = false ∧ reading.faults.entries.length = 12) ∧
    shown reading 10005 = some (some (.supplyWrite false), none, true) ∧ reading.head.pendingRead = true ∧
    shown { reading with head.pendingWrite := some true } 10004 = some (some (.supplyWrite true), none, true) ∧
    shown reading 10004 = some (some .read, none, false) ∧
    shown { reading with head.pendingRead := false } 10004 = some (none, none, false) ∧
    shown { reading with head.silent := true } 10004 = some (some (.setUp true), none, true) := by
  refine ⟨?_, ?_, ?_, ?_, ?_, ?_, ?_⟩ <;> decide +kernel

/-- R128: a leak accepted while the ring is LOCKED_OFF joins the lock causes; in OFF it leaves the ring. -/
theorem witness_ReadAcceptsInputs_leaks :
    let leaking := { runState with head.transfer := some .read, head.leak := ⟨.inactive, some (true, 5), true⟩ }
    let locked := { leaking with ring.state := .lockedOff, ring.causes.offTrip := true, ring.demand := false }
    let off := { leaking with ring.state := .off, mode := .setup }
    let after := fun s => onNext (fun t => (t.ring.state, t.ring.causes, t.ring.demand))
      (exec (.inputReadEnd true ⟨true, false, false, true⟩ 10005) s)
    locked.faults.entries.length = 12 ∧
    after locked = some (.lockedOff, { locked.ring.causes with leak := true }, false) ∧
    after off = some (.off, off.ring.causes, true) := by
  decide +kernel

/-- BOOT with a record of the image to apply. -/
def applying (r : StoredRecord) (first : Bool) : State := { State.reset with store.load := .applying [r] first 0 }

/-- A good image of no records: format 1, length 0, count 0, the CRC-32 of no bytes. -/
def emptyImage : State :=
  { State.reset with store.flash := [(0, 0#8), (1, 1#8), (2, 0#8), (3, 0#8), (4, 0#8), (5, 0#8), (6, 0#8), (7, 0#8)] }

theorem witness_StoredImageLoads :
    let options := fun (m1 a m2 alt m3 rate : Byte) => (⟨0x5F, [m1, a, m2, alt, m3, rate]⟩ : StoredRecord)
    let a := options 1 119 1 1 1 1
    let shot := fun (r : StoredRecord) (first : Bool) => onNext (fun t => t.store.outcome) (exec .storedRecordApply (applying r first))
    setupState.store.load ≠ .reading ∧
    (State.reset.store.load = .reading ∧ State.reset.store.header.format ≠ 1) ∧
    (emptyImage.store.header.format = 1 ∧ emptyImage.store.header.length = 0 ∧
      crc32 (emptyImage.store.bytes 12 0) = emptyImage.store.header.crc ∧
      walkRecords emptyImage.store.header.count (emptyImage.store.bytes 12 0) = ([], true)) ∧
    ((applying a true).mode = .boot ∧ (applying a true).store.load = .applying (a :: []) true 0 ∧ shot a true = some (some .loaded)) ∧
    (shot (options 0 7 0 0 0 0) true = some (some .irregular) ∧ shot (options 0 8 0 0 0 2) true = some (some .irregular) ∧
      shot (options 0 8 0 0 0 0) true = some (some .loaded) ∧ shot a false = some (some .irregular)) ∧
    (0x77 ∉ 0x5F :: storedKinds) ∧ (applying a false).store.load = .applying (a :: []) false 0 ∧
    ((applying ⟨0x41, u16 12276⟩ false).store.load = .applying (⟨0x41, u16 12276⟩ :: []) false 0 ∧ 12276 < 65536) ∧
    (readRequest ⟨.service, 0⟩ 0x24 (u8 1 ++ u8 7) = some (.setDarkRefresh ⟨.service, 0⟩ 1 7) ∧
      readRequest ⟨.service, 0⟩ 0x24 (u8 1) = none ∧ shot ⟨0x24, u8 1 ++ u8 7⟩ false = some (some .loaded) ∧
      shot ⟨0x24, u8 1 ++ u8 8⟩ false = some (some .irregular)) ∧
    (shot ⟨0x32, u8 0 ++ (List.replicate 65 32767).flatMap u16⟩ false = some (some .loaded)) ∧
    { State.reset with store.load := .applying [] false 0 }.store.load = .applying [] false 0 := by
  decide +kernel

end Sys2Proof.Tests
end

/-! Proofs: pixel conditioning and the settings, tables and maps that its requests replace. -/

namespace Sys2Proof.Machine.Conditioning

/-! ### Requests that the Dispatcher serves -/

section
variable {q : Req} {i : Instr} {owner : State → Answer} {s t : State}

/-- A served request whose owner answers at once gets that answer. -/
theorem ownedRequest_answers (h : s.serves q i) :
    ownedRequest q i owner s = .next (answer q i (owner (s.taken q.port))) :=
  let ⟨hwell, htakes, hboot⟩ := h
  ownedRequest_served q i owner s hwell htakes hboot

theorem ownedRequest_refuses {c : Code} (h : s.serves q i) (ho : owner (s.taken q.port) = refuse c t) :
    ownedRequest q i owner s = .next (replied q (replyKindOf i) c [] t) := by
  rw [ownedRequest_answers h, ho]
  rfl

theorem ownedRequest_accepts {data : List Byte} (h : s.serves q i) (ho : owner (s.taken q.port) = okWith data t) :
    ownedRequest q i owner s = .next (replied q (replyKindOf i) .ok data t) := by
  rw [ownedRequest_answers h, ho]
  rfl

end

/-! ### Lists of a request's bytes (R167) -/

theorem byteList_length {n : Nat} {l : List Nat} (h : byteList n l = true) : l.length = n := by
  simp only [byteList, Bool.and_eq_true, beq_iff_eq] at h
  exact h.1

theorem halfList_length {n : Nat} {l : List Nat} (h : halfList n l = true) : l.length = n := by
  simp only [halfList, Bool.and_eq_true, beq_iff_eq] at h
  exact h.1

/-! ### One pixel (R24, R25) -/

/-- An interpolation with the weights `32 - f` and `f` stays between the two bounds of its ends, 32-fold. -/
theorem weighted_bounds {lo hi a b f : Nat} (hf : f ≤ 32) (ha : lo ≤ a ∧ a ≤ hi) (hb : lo ≤ b ∧ b ≤ hi) :
    32 * lo ≤ a * (32 - f) + b * f ∧ a * (32 - f) + b * f ≤ 32 * hi := by
  have parts : ∀ n, 32 * n = n * (32 - f) + n * f := fun n => by rw [← Nat.mul_add, Nat.sub_add_cancel hf, Nat.mul_comm]
  rw [parts lo, parts hi]
  exact ⟨Nat.add_le_add (Nat.mul_le_mul_right _ ha.1) (Nat.mul_le_mul_right _ hb.1),
    Nat.add_le_add (Nat.mul_le_mul_right _ ha.2) (Nat.mul_le_mul_right _ hb.2)⟩

/-- Gain interpolation stays within bounds of the four nodes: the weights sum to 1024, and rounding cannot leave an integer
bound. -/
theorem interpolateGain_bounds {gain : List Nat} {x y lo hi : Nat}
    (h : ∀ a b, a ≤ 1 → b ≤ 1 →
      lo ≤ gainNode gain (x / 32 + a) (y / 32 + b) ∧ gainNode gain (x / 32 + a) (y / 32 + b) ≤ hi) :
    lo ≤ interpolateGain gain x y ∧ interpolateGain gain x y ≤ hi := by
  have hfx : x % 32 ≤ 32 := (Nat.mod_lt x (by decide)).le
  have hfy : y % 32 ≤ 32 := (Nat.mod_lt y (by decide)).le
  have top := weighted_bounds hfx (h 0 0 (by decide) (by decide)) (h 1 0 (by decide) (by decide))
  have bottom := weighted_bounds hfx (h 0 1 (by decide) (by decide)) (h 1 1 (by decide) (by decide))
  have all := weighted_bounds hfy top bottom
  simp only [interpolateGain, Nat.add_zero] at all ⊢
  omega

/-- At a node's own position the other weights are 0. -/
theorem interpolateGain_at_node {gain : List Nat} {x y : Nat} (hx : x % 32 = 0) (hy : y % 32 = 0) :
    interpolateGain gain x y = gainNode gain (x / 32) (y / 32) := by
  simp only [interpolateGain, hx, hy]
  omega

theorem conditionPixel_below {dark gain : List Nat} {x y p : Nat} (h : p < dark.getD (zoneOf x y) 0) :
    conditionPixel dark gain x y p = (0, 0) := by
  have hc : darkSubtract p (dark.getD (zoneOf x y) 0) = 0 := Nat.sub_eq_zero_of_le h.le
  simp only [conditionPixel, hc, applyGain, Nat.zero_mul]
  rfl

/-- Settles O29: the dark subtraction is the natural-number difference, and the gain is bounded by its weights. -/
theorem pixelsAreConditioned : Obligations.PixelsAreConditioned := by
  refine ⟨fun s x y p _ _ hp => ⟨?_, ?_, conditionPixel_below⟩, fun s x y lo hi _ _ =>
    ⟨rfl, interpolateGain_bounds, interpolateGain_at_node⟩⟩
  · simp only [conditionPixel, darkSubtract, zoneOf]
    split <;> omega
  · exact (Nat.sub_le p _).trans hp

/-! ### Settings replaced whole (R30, R35, R48, R68, R129, R140) -/

theorem countZones_getD (l : List Nat) {k : Nat} (hk : k < 12) :
    (countZones l).getD k 0 = (l.filter (· = k)).length := by
  simp [countZones, List.getD_eq_getElem?_getD, hk, List.count_eq_length_filter, BEq.beq]

/-- A zone of a map of 1024 entries has its entry, whatever an entry outside would read as. -/
theorem sectorOf_eq {l : List Nat} {x y : Nat} (hl : l.length = 1024) (hx : x < 1024) (hy : y < 1024) :
    sectorOf l x y = l.getD (32 * (y / 32) + x / 32) 0 := by
  have hz : 32 * (y / 32) + x / 32 < l.length := by omega
  simp only [sectorOf, zoneOf, List.getD_eq_getElem _ _ hz]

/-- Settles O35: the owner's three answers, in the order of its checks. -/
theorem writeSectorMapReplaces : Obligations.WriteSectorMapReplaces := by
  intro q l s h
  have hl : l.length = 1024 := byteList_length (Bool.and_eq_true_iff.mp h.1).2
  refine ⟨fun hm => ?refusedMode, fun hm ⟨k, hk, hlt⟩ => ?outOfRange, fun hm hk =>
    ⟨countZones l, ?length, fun k => countZones_getD l, fun x y => sectorOf_eq hl, ?replaced⟩⟩
  case refusedMode => exact ownedRequest_refuses h (by simp [writeSectorMapOwner, hm])
  case outOfRange =>
    have bad : l.all (fun k => decide (k ≤ 12)) = false := by simpa using ⟨k, hk, hlt⟩
    exact ownedRequest_refuses h (by simp [writeSectorMapOwner, hm, bad])
  case length => simp [countZones]
  case replaced =>
    have good : l.all (fun k => decide (k ≤ 12)) = true := by simpa using hk
    exact ownedRequest_accepts h (by simp [writeSectorMapOwner, hm, good, entries])

theorem boolOfCode_eq (n : Nat) : boolOfCode n = if 1 < n then none else some (decide (n = 1)) := by
  match n with
  | 0 => rfl
  | 1 => rfl
  | n + 2 => simp [boolOfCode]

theorem loopMode_ofCode_eq (n : Nat) :
    LoopMode.ofCode n = if 1 < n then none else some (if n = 0 then .loop else .manual) := by
  match n with
  | 0 => rfl
  | 1 => rfl
  | n + 2 => simp [LoopMode.ofCode]

theorem setDarkRefreshOwner_eq (enable shift : Nat) (s : State) :
    setDarkRefreshOwner enable shift s =
      if 7 < shift ∨ 1 < enable then refuse .outOfRange s
      else okWith [] { s with cal.refresh := decide (enable = 1), cal.shift := shift } := by
  by_cases he : 1 < enable
  · simp [setDarkRefreshOwner, boolOfCode_eq, he]
  · simp [setDarkRefreshOwner, boolOfCode_eq, he]

/-- A marked profile at or above a limit, found among the selectors or among the descriptors. -/
theorem markedSelectors_any (s : State) (limit : Nat) :
    s.markedSelectors.any (fun n => decide (limit ≤ n)) = (s.table.profiles.drop limit).any (fun p => p.mark != .none) := by
  rw [Bool.eq_iff_iff]
  simp only [State.markedSelectors, List.any_filter, List.any_eq_true, List.mem_range, State.profile, Bool.and_eq_true,
    decide_eq_true_eq]
  constructor
  · rintro ⟨n, hn, hmark, hle⟩
    rw [List.getD_eq_getElem _ _ hn] at hmark
    exact ⟨_, List.mem_drop_iff_getElem.mpr ⟨n - limit, by omega, by simp [Nat.add_sub_cancel' hle]⟩, hmark⟩
  · rintro ⟨p, hp, hmark⟩
    obtain ⟨k, hk, rfl⟩ := List.mem_drop_iff_getElem.mp hp
    exact ⟨limit + k, by omega, by rwa [List.getD_eq_getElem], by omega⟩

/-- The ranges of Table 7-3 a balance request breaks. -/
theorem balanceOf_eq (b : BalanceArg) :
    balanceOf b =
      if 1 < b.loopMode ∨ 4095 < b.target ∨ 4095 < b.kp ∨ b.slew < 1 ∨ 1023 < b.slew ∨ 4095 < b.deadband ∨
          4095 < b.mask ∨ 1 < b.autoExposure ∨ 4095 < b.margin ∨ 4095 < b.forced then none
      else some ⟨if b.loopMode = 0 then .loop else .manual, b.target, b.kp, b.slew, b.deadband, b.mask,
        decide (b.autoExposure = 1), b.margin, b.forced⟩ := by
  by_cases hm : 1 < b.loopMode
  · simp [balanceOf, loopMode_ofCode_eq, hm]
  by_cases ha : 1 < b.autoExposure
  · simp [balanceOf, boolOfCode_eq, ha]
  simp only [balanceOf, loopMode_ofCode_eq, boolOfCode_eq, if_neg hm, if_neg ha]
  by_cases hr : b.target ≤ 4095 ∧ b.kp ≤ 4095 ∧ 1 ≤ b.slew ∧ b.slew ≤ 1023 ∧ b.deadband ≤ 4095 ∧ b.mask ≤ 4095 ∧
      b.margin ≤ 4095 ∧ b.forced ≤ 4095
  · rw [if_pos hr]
    exact (if_neg (by omega)).symm
  · rw [if_neg hr]
    exact (if_pos (by omega)).symm

theorem limitsAccepted_iff (total dimCount offCount threshold : Nat) :
    limitsAccepted total dimCount offCount threshold = true ↔
      ¬ (49140 < total ∨ dimCount < 1 ∨ 255 < dimCount ∨ 255 < offCount ∨ 4095 < threshold ∨ offCount < dimCount) := by
  simp only [limitsAccepted, Bool.and_eq_true, decide_eq_true_eq]
  omega

/-- Settles O36: each owner, on the state in which its request is taken, is the statement's chain of checks. -/
theorem settingsRequestsReplace : Obligations.SettingsRequestsReplace := by
  intro q s
  refine ⟨fun glare hot h => ?statistics, fun enable shift h => ?refresh, fun limit h => ?limit, fun b h => ?balance,
    fun total dimCount offCount threshold h => ?supervision⟩ <;>
    refine (ownedRequest_answers h).trans (congrArg _ ?_)
  case statistics =>
    simp only [writeStatisticsSettingsOwner, State.taken_mode]
    split_ifs <;> rfl
  case refresh =>
    rw [setDarkRefreshOwner_eq]
    split_ifs <;> rfl
  case limit =>
    simp only [setProfileLimitOwner, markedSelectors_any, State.taken_mode, State.taken_table]
    split_ifs <;> rfl
  case balance =>
    simp only [writeBalanceSettingsOwner, balanceOf_eq, State.taken_mode]
    split_ifs <;> rfl
  case supervision =>
    simp only [writeSupervisionLimitsOwner, limitsAccepted_iff, State.taken_mode]
    split_ifs <;> rfl

/-! ### Tables replaced by the segment (R37, R130) -/

section
variable {α : Type} {table l : List α} {n : Nat}

theorem length_replaceSegment (hl : l.length = 256) (hn : 256 * n + 256 ≤ table.length) :
    (replaceSegment table n l).length = table.length := by
  simp only [replaceSegment, List.length_append, List.length_take, List.length_drop]
  omega

theorem getD_replaceSegment (hl : l.length = 256) (hn : 256 * n + 256 ≤ table.length) (i : Nat) (d : α) :
    (replaceSegment table n l).getD i d =
      if 256 * n ≤ i ∧ i < 256 * n + 256 then l.getD (i - 256 * n) d else table.getD i d := by
  have htake : (table.take (256 * n)).length = 256 * n := List.length_take_of_le (by omega)
  have hpre : (table.take (256 * n) ++ l).length = 256 * n + 256 := by rw [List.length_append, htake, hl]
  rw [replaceSegment]
  split_ifs with h
  · rw [List.getD_append _ _ _ _ (by omega), List.getD_append_right _ _ _ _ (by omega), htake]
  · by_cases hi : i < 256 * n
    · rw [List.getD_append _ _ _ _ (by omega), List.getD_append _ _ _ _ (by omega)]
      simp [List.getD_eq_getElem?_getD, hi]
    · rw [List.getD_append_right _ _ _ _ (by omega), hpre]
      simp [List.getD_eq_getElem?_getD, show 256 * n + 256 + (i - (256 * n + 256)) = i by omega]

end

@[simp] theorem toneInUse_taken (s : State) (p : Port) : (s.taken p).toneInUse = s.toneInUse := by
  rw [State.toneInUse, State.taken_warp, State.toneInUse]

theorem glare_ofCode_eq_some {n : Nat} {g : Glare} : Glare.ofCode n = some g ↔ g.code = n := by
  constructor
  · intro h
    match n with
    | 0 | 1 | 2 | 3 => cases h; rfl
    | n + 4 => simp [Glare.ofCode] at h
  · rintro rfl
    cases g <;> rfl

theorem glare_code_le (g : Glare) : g.code ≤ 3 := by cases g <;> decide

/-- The responses read from the values of a segment are those whose codes are the values. -/
theorem mapM_glare_eq_some {l : List Nat} {gs : List Glare} :
    l.mapM Glare.ofCode = some gs ↔ gs.map Glare.code = l := by
  induction l generalizing gs with
  | nil => simp [eq_comm]
  | cons n l ih =>
    simp only [List.mapM_cons, Option.bind_eq_bind, Option.bind_eq_some_iff, glare_ofCode_eq_some, ih, Option.pure_def,
      Option.some.injEq, List.map_eq_cons_iff]
    grind

theorem exists_glares {l : List Nat} (h : ∀ g ∈ l, g ≤ 3) : ∃ gs : List Glare, gs.map Glare.code = l := by
  refine (Set.range_list_map Glare.code).ge fun n hn => ?_
  match n, h n hn with
  | 0, _ => exact ⟨.normal, rfl⟩
  | 1, _ => exact ⟨.hold, rfl⟩
  | 2, _ => exact ⟨.dimHot, rfl⟩
  | 3, _ => exact ⟨.shorten, rfl⟩

theorem mapM_glare_eq_none {l : List Nat} (h : ∃ g ∈ l, 3 < g) : l.mapM Glare.ofCode = none := by
  obtain ⟨n, hn, hlt⟩ := h
  refine Option.eq_none_iff_forall_ne_some.mpr fun gs hgs => ?_
  rw [← mapM_glare_eq_some.mp hgs] at hn
  obtain ⟨g, -, rfl⟩ := List.mem_map.mp hn
  exact absurd (glare_code_le g) (by omega)

/-- Settles O37: a segment's entries stand at their places between the two untouched parts, and the glare responses are read
back by their codes. -/
theorem tableSegmentsReplace : Obligations.TableSegmentsReplace := by
  intro q n l s
  refine ⟨fun h => ?tone, fun h => ?glare⟩ <;>
    have hl : l.length = 256 := byteList_length (Bool.and_eq_true_iff.mp h.1).2
  case tone =>
    refine ⟨fun hm => ?refusedMode, fun hm hn => ?outOfRange, fun hm hn huse => ?tableBusy, fun hm hn huse htable =>
      ⟨replaceSegment s.cond.tone n l, ?length, fun i _ => getD_replaceSegment hl (by omega) i 0, ?replaced⟩⟩
    case refusedMode => exact ownedRequest_refuses h (by simp [writeToneSegmentOwner, hm])
    case outOfRange => exact ownedRequest_refuses h (by simp [writeToneSegmentOwner, hm, hn])
    case tableBusy =>
      have used : s.toneInUse = true := by simpa [State.toneInUse] using huse
      exact ownedRequest_refuses h (by simp [writeToneSegmentOwner, hm, Nat.not_lt.mpr hn, used])
    case length => rw [length_replaceSegment hl (by omega), htable]
    case replaced =>
      have unused : s.toneInUse = false := by simpa [State.toneInUse] using huse
      exact ownedRequest_accepts h (by simp [writeToneSegmentOwner, hm, Nat.not_lt.mpr hn, unused])
  case glare =>
    refine ⟨fun hm => ?refusedMode, fun hm hbad => ?outOfRange, fun hm hn hg htable => ?replaced⟩
    case refusedMode => exact ownedRequest_refuses h (by simp [writeGlareTableOwner, hm])
    case outOfRange =>
      refine ownedRequest_refuses h ?_
      by_cases hn : 15 < n
      · simp [writeGlareTableOwner, hm, hn]
      · simp [writeGlareTableOwner, hm, hn, mapM_glare_eq_none (hbad.resolve_left hn)]
    case replaced =>
      obtain ⟨gs, rfl⟩ := exists_glares hg
      have hgs : gs.length = 256 := by simpa using hl
      refine ⟨replaceSegment s.ring.glare n gs, ?length, fun i _ => ?entry, ?next⟩
      case length => rw [length_replaceSegment hgs (by omega), htable]
      case entry =>
        rw [getD_replaceSegment hgs (by omega), apply_ite Glare.code]
        exact if_congr Iff.rfl (List.getD_map gs .normal Glare.code).symm rfl
      case next =>
        exact ownedRequest_accepts h
          (by simp [writeGlareTableOwner, hm, Nat.not_lt.mpr hn, mapM_glare_eq_some.mpr rfl])

/-! ### Maps: regions and links (R41, R45) -/

@[simp] theorem mapLink_taken (s : State) (p r : Port) : (s.taken p).mapLink r = s.mapLink r := by
  cases p <;> cases r <;> rfl

@[simp] theorem workingMap_taken (s : State) (p : Port) (m : MapName) : (s.taken p).workingMap m = s.workingMap m := by
  cases p <;> cases m <;> rfl

@[simp] theorem workingMap_setMapLink (s : State) (p : Port) (x : Option MapLink) (m : MapName) :
    (s.setMapLink p x).workingMap m = s.workingMap m := by
  cases p <;> cases m <;> rfl

/-- The map a code up to 1 names. -/
def mapNamed (n : Nat) : MapName := if n = 0 then .dark else .gain

theorem mapName_ofCode_eq (n : Nat) : MapName.ofCode n = if n ≤ 1 then some (mapNamed n) else none := by
  match n with
  | 0 => rfl
  | 1 => rfl
  | n + 2 => simp [MapName.ofCode]

theorem span_mapNamed (n : Nat) : (mapNamed n).span = if n = 0 then 32 else 33 := apply_ite MapName.span _ _ _

theorem top_mapNamed (n : Nat) : (mapNamed n).top = if n = 0 then 1023 else 4095 := apply_ite MapName.top _ _ _

/-- The region a request names, whether or not it is valid. -/
def regionOf (a : RegionArg) : MapLink := ⟨mapNamed a.map, a.x0, a.y0, a.w, a.h⟩

/-- A valid region of a request (R41). -/
def regionValid (a : RegionArg) : Prop :=
  a.map ≤ 1 ∧ 1 ≤ a.w ∧ 1 ≤ a.h ∧ a.x0 + a.w ≤ (if a.map = 0 then 32 else 33) ∧
    a.y0 + a.h ≤ (if a.map = 0 then 32 else 33) ∧ a.w * a.h ≤ 256

theorem validRegion_eq_some {a : RegionArg} (h : regionValid a) : validRegion a = some (regionOf a) := by
  obtain ⟨hmap, hfits⟩ := h
  rw [← span_mapNamed] at hfits
  simp only [validRegion, mapName_ofCode_eq, if_pos hmap]
  exact if_pos hfits

theorem validRegion_eq_none {a : RegionArg} (h : ¬ regionValid a) : validRegion a = none := by
  rw [regionValid, not_and] at h
  simp only [validRegion, mapName_ofCode_eq]
  split_ifs with hmap
  · specialize h hmap
    rw [← span_mapNamed] at h
    exact if_neg h
  · rfl

/-- A valid region's columns lie in its map. -/
theorem regionValid.columns {a : RegionArg} (h : regionValid a) :
    (regionOf a).x0 + (regionOf a).w ≤ (regionOf a).map.span := by
  obtain ⟨-, -, -, hx, -⟩ := h
  rwa [regionOf, span_mapNamed]

/-! ### The indices of a region -/

/-- The index of entry (i, j) tells its row and its column. -/
theorem index_inj {span i j i' j' : Nat} (hi : i < span) (hi' : i' < span) (h : span * j + i = span * j' + i') :
    i = i' ∧ j = j' := by
  have hj : j = j' := by
    simpa [Nat.mul_add_div (Nat.zero_lt_of_lt hi), Nat.div_eq_of_lt hi, Nat.div_eq_of_lt hi'] using congrArg (· / span) h
  subst hj
  exact ⟨by omega, rfl⟩

/-- Rows of equal width in turn are one list, entry `k` standing in row `k / w` and column `k % w`. -/
theorem flatMap_rows {α : Type} (f : Nat → Nat → α) (w h : Nat) :
    ((List.range h).flatMap fun j => (List.range w).map fun i => f j i) =
      (List.range (w * h)).map fun k => f (k / w) (k % w) := by
  induction h with
  | zero => rfl
  | succ h ih =>
    rw [List.range_succ, List.flatMap_append, ih, Nat.mul_succ, List.range_add, List.map_append, List.map_map]
    simp only [List.flatMap_cons, List.flatMap_nil, List.append_nil, List.append_cancel_left_eq]
    refine List.map_congr_left fun i hi => ?_
    have hlt : i < w := List.mem_range.mp hi
    simp [Nat.mul_add_div (Nat.zero_lt_of_lt hlt), Nat.div_eq_of_lt hlt, Nat.mod_eq_of_lt hlt]

theorem indices_eq (r : MapLink) :
    r.indices = (List.range (r.w * r.h)).map fun k => r.map.span * (r.y0 + k / r.w) + (r.x0 + k % r.w) :=
  flatMap_rows (fun j i => r.map.span * (r.y0 + j) + (r.x0 + i)) r.w r.h

@[simp] theorem indices_length (r : MapLink) : r.indices.length = r.w * r.h := by simp [indices_eq]

section
variable {r : MapLink}

theorem indices_nodup (hx : r.x0 + r.w ≤ r.map.span) : r.indices.Nodup := by
  rw [indices_eq]
  refine List.Nodup.map_on (fun k hk k' hk' h => ?_) List.nodup_range
  have hw : 0 < r.w := Nat.pos_of_mul_pos_right (Nat.zero_lt_of_lt (List.mem_range.mp hk))
  have hlt := Nat.mod_lt k hw
  have hlt' := Nat.mod_lt k' hw
  obtain ⟨hi, hj⟩ := index_inj (by omega) (by omega) h
  rw [← Nat.div_add_mod k r.w, ← Nat.div_add_mod k' r.w, show k / r.w = k' / r.w by omega,
    show k % r.w = k' % r.w by omega]

theorem holds_iff (i j : Nat) : r.holds i j = true ↔ r.x0 ≤ i ∧ i < r.x0 + r.w ∧ r.y0 ≤ j ∧ j < r.y0 + r.h := by
  simp [MapLink.holds, and_assoc]

/-- The place in row order of an entry the region holds. -/
theorem indices_getElem_of_holds {i j : Nat} (h : r.holds i j = true) :
    ∃ hk : r.w * (j - r.y0) + (i - r.x0) < r.indices.length,
      r.indices[r.w * (j - r.y0) + (i - r.x0)] = r.map.span * j + i := by
  obtain ⟨hx, hxw, hy, hyh⟩ := (holds_iff i j).mp h
  have hlt : i - r.x0 < r.w := by omega
  have hk : r.w * (j - r.y0) + (i - r.x0) < r.w * r.h := calc
    _ < r.w * (j - r.y0) + r.w := by omega
    _ = r.w * (j - r.y0 + 1) := (Nat.mul_succ ..).symm
    _ ≤ r.w * r.h := Nat.mul_le_mul_left _ (by omega)
  refine ⟨by rwa [indices_length], ?_⟩
  simp only [indices_eq, List.getElem_map, List.getElem_range, Nat.mul_add_div (Nat.zero_lt_of_lt hlt), Nat.div_eq_of_lt hlt,
    Nat.mul_add_mod, Nat.mod_eq_of_lt hlt]
  rw [show r.y0 + (j - r.y0 + 0) = j by omega, show r.x0 + (i - r.x0) = i by omega]

theorem holds_of_mem_indices {i j : Nat} (hx : r.x0 + r.w ≤ r.map.span) (hi : i < r.map.span)
    (h : r.map.span * j + i ∈ r.indices) : r.holds i j = true := by
  rw [MapLink.indices] at h
  simp only [List.mem_flatMap, List.mem_map, List.mem_range] at h
  obtain ⟨b, hb, a, ha, hba⟩ := h
  obtain ⟨hia, hjb⟩ := index_inj (by omega) hi hba
  exact (holds_iff i j).mpr (by omega)

end

/-- Two regions that are not empty overlap exactly when they share an entry of one map. -/
theorem overlaps_iff {a b : MapLink} (ha : a.w ≠ 0 ∧ a.h ≠ 0) (hb : b.w ≠ 0 ∧ b.h ≠ 0) :
    a.overlaps b = true ↔ a.map = b.map ∧ ∃ i j, b.holds i j = true ∧ a.holds i j = true := by
  simp only [MapLink.overlaps, Bool.and_eq_true, beq_iff_eq, decide_eq_true_eq, and_assoc, holds_iff]
  refine and_congr_right fun _ => ⟨fun h => ⟨max a.x0 b.x0, max a.y0 b.y0, ?_⟩, ?_⟩
  · omega
  · rintro ⟨i, j, h⟩
    omega

/-! ### Entries written in turn -/

@[simp] theorem length_setEntries (ps : List (Nat × Nat)) (l : List Nat) : (setEntries l ps).length = l.length := by
  induction ps generalizing l with
  | nil => rfl
  | cons p ps ih => rw [setEntries, ih, List.length_set]

theorem getD_setEntries_of_not_mem {ps : List (Nat × Nat)} {n : Nat} (h : n ∉ ps.map (·.1)) (l : List Nat) (d : Nat) :
    (setEntries l ps).getD n d = l.getD n d := by
  induction ps generalizing l with
  | nil => rfl
  | cons p ps ih =>
    obtain ⟨hne, hrest⟩ := not_or.mp (mt List.mem_cons.mpr h)
    rw [setEntries, ih hrest]
    simp [List.getD_eq_getElem?_getD, List.getElem?_set_ne (Ne.symm hne)]

theorem map_fst_zip_subset (ns vs : List Nat) : (ns.zip vs).map (·.1) ⊆ ns := by
  intro n hn
  obtain ⟨p, hp, rfl⟩ := List.mem_map.mp hn
  exact (List.of_mem_zip hp).1

/-- Values at different indices: each index inside the map reads its own value afterwards. -/
theorem getD_setEntries_zip {ns vs : List Nat} (hns : ns.Nodup) {k : Nat} (hk : k < ns.length) (hv : k < vs.length)
    {l : List Nat} (hl : ns[k] < l.length) : (setEntries l (ns.zip vs)).getD ns[k] 0 = vs[k] := by
  induction ns generalizing l vs k with
  | nil => simp at hk
  | cons n ns ih =>
    obtain ⟨hn, hns⟩ := List.nodup_cons.mp hns
    match vs, k with
    | v :: vs, 0 =>
      have hrest : n ∉ (ns.zip vs).map (·.1) := fun h => hn (map_fst_zip_subset ns vs h)
      simp only [List.getElem_cons_zero] at hl
      rw [List.getElem_cons_zero, List.zip_cons_cons, setEntries, getD_setEntries_of_not_mem hrest,
        List.getD_eq_getElem _ _ (by simpa using hl), List.getElem_set_self, List.getElem_cons_zero]
    | v :: vs, k + 1 => exact ih hns (by simpa using hk) (by simpa using hv) (by simpa using hl)

/-! ### A region written (R45, R46) -/

/-- A map with a region's entries written with saturation. -/
def written (r : MapLink) (vals map : List Nat) : List Nat := setEntries map (r.indices.zip (vals.map (min r.map.top)))

section
variable {r : MapLink} {vals map : List Nat}

@[simp] theorem length_written : (written r vals map).length = map.length := length_setEntries _ _

theorem getD_written_of_not_mem {n : Nat} (h : n ∉ r.indices) : (written r vals map).getD n 0 = map.getD n 0 :=
  getD_setEntries_of_not_mem (fun hn => h (map_fst_zip_subset _ _ hn)) _ _

theorem getD_written (hx : r.x0 + r.w ≤ r.map.span) {k : Nat} (hk : k < r.indices.length) (hv : k < vals.length)
    (hm : r.indices[k] < map.length) : (written r vals map).getD r.indices[k] 0 = min r.map.top (vals.getD k 0) := by
  rw [written, getD_setEntries_zip (indices_nodup hx) hk (by simpa using hv) hm, List.getElem_map, List.getD_eq_getElem _ _ hv]

end

theorem saturatedCount_eq (m : MapName) (vals : List Nat) : saturatedCount m vals = (vals.filter (m.top < ·)).length :=
  List.countP_eq_length_filter

section
variable (r : MapLink) (vals : List Nat) (s : State)

theorem cond_writeRegion_run (hm : s.mode = .run) : (writeRegion r vals s).cond = { s.cond with changed := true } := by
  simp only [writeRegion, writeMap, if_pos hm]
  cases r.map <;> rfl

/-- A region write leaves the acquisition, the ring, the faults, the slots and the mode. -/
theorem writeRegion_frame :
    (writeRegion r vals s).cal.acq = s.cal.acq ∧ (writeRegion r vals s).ring = s.ring ∧
    (writeRegion r vals s).faults = s.faults ∧ (writeRegion r vals s).slots = s.slots ∧
    (writeRegion r vals s).mode = s.mode := by
  simp only [writeRegion, writeMap]
  cases r.map <;> dsimp only <;> split <;> exact ⟨rfl, rfl, rfl, rfl, rfl⟩

theorem writeRegion_dark (hr : r.map = .dark) (hm : s.mode ≠ .run) :
    writeRegion r vals s =
      { s with
        cal.dark := written r vals s.cal.dark, cond.dark := written r vals s.cal.dark
        linkTether := s.linkTether.filter fun x => !x.overlaps r
        linkService := s.linkService.filter fun x => !x.overlaps r } := by
  simp [writeRegion, writeMap, written, breakLinks, State.workingMap, hr, hm]

theorem writeRegion_gain (hr : r.map = .gain) (hm : s.mode ≠ .run) :
    writeRegion r vals s =
      { s with
        cal.gain := written r vals s.cal.gain, cond.gain := written r vals s.cal.gain
        linkTether := s.linkTether.filter fun x => !x.overlaps r
        linkService := s.linkService.filter fun x => !x.overlaps r } := by
  simp [writeRegion, writeMap, written, breakLinks, State.workingMap, hr, hm]

@[simp] theorem workingMap_writeRegion :
    (writeRegion r vals s).workingMap r.map = written r vals (s.workingMap r.map) := by
  simp only [writeRegion, writeMap, written]
  cases r.map <;> dsimp only <;> split <;> rfl

@[simp] theorem mapLink_writeRegion (p : Port) :
    (writeRegion r vals s).mapLink p = (s.mapLink p).filter fun x => !x.overlaps r := by
  simp only [writeRegion, writeMap]
  cases r.map <;> cases p <;> dsimp only <;> split <;> rfl

end

/-- What a region write makes of the entry (i, j), in the terms of the statement. -/
theorem getD_written_entry {r : MapLink} {vals map : List Nat} (hx : r.x0 + r.w ≤ r.map.span)
    (hv : vals.length = r.w * r.h) (hmap : map.length = r.map.span * r.map.span) {i j : Nat} (hi : i < r.map.span)
    (hj : j < r.map.span) :
    (r.holds i j = true → (written r vals map).getD (r.map.span * j + i) 0 =
      min r.map.top (vals.getD (r.w * (j - r.y0) + (i - r.x0)) 0)) ∧
    (¬ r.holds i j = true → (written r vals map).getD (r.map.span * j + i) 0 = map.getD (r.map.span * j + i) 0) := by
  refine ⟨fun h => ?_, fun h => getD_written_of_not_mem (mt (holds_of_mem_indices hx hi) h)⟩
  obtain ⟨hk, hentry⟩ := indices_getElem_of_holds h
  have hplace : r.map.span * j + i < map.length := by
    rw [hmap]
    exact (Nat.add_lt_add_left hi _).trans_le (Nat.mul_succ .. ▸ Nat.mul_le_mul_left _ hj)
  rw [← hentry] at hplace ⊢
  exact getD_written hx hk (by rwa [hv, ← indices_length]) hplace

theorem code_eq_iff {m : MapName} {n : Nat} (hn : n ≤ 1) : m.code = n ↔ m = mapNamed n := by
  match n, hn with
  | 0, _ => cases m <;> simp [MapName.code, mapNamed]
  | 1, _ => cases m <;> simp [MapName.code, mapNamed]

/-- What is left of a link when a valid region is written: it, unless it shares an entry with the region. -/
theorem filter_overlaps {a : RegionArg} (hv : regionValid a) (x : MapLink) (hw : x.w ≠ 0) (hh : x.h ≠ 0) :
    let left := (some x).filter fun x => !x.overlaps (regionOf a)
    (left = none ∨ left = some x) ∧
    (left = none ↔ x.map.code = a.map ∧ ∃ i j,
      (a.x0 ≤ i ∧ i < a.x0 + a.w ∧ a.y0 ≤ j ∧ j < a.y0 + a.h) ∧
      x.x0 ≤ i ∧ i < x.x0 + x.w ∧ x.y0 ≤ j ∧ j < x.y0 + x.h) := by
  obtain ⟨hmap, haw, hah, -⟩ := hv
  have shared := overlaps_iff (b := regionOf a) ⟨hw, hh⟩ ⟨Nat.ne_of_gt haw, Nat.ne_of_gt hah⟩
  simp only [holds_iff] at shared
  rw [code_eq_iff hmap]
  refine ⟨?_, Iff.trans ?_ shared⟩ <;> cases h : x.overlaps (regionOf a) <;> simp [h]

/-- Settles O39: the region's indices differ, so each of its entries reads its own value and every other one its old value. -/
theorem writeMapRegionWrites : Obligations.WriteMapRegionWrites := by
  intro q a l s h span top inside valid
  have hl : l.length = a.w * a.h := halfList_length (Bool.and_eq_true_iff.mp h.1).2
  refine ⟨fun hm => ?refusedMode, fun hm hv => ?outOfRange, fun hm hv hdark hgain => ?written⟩
  case refusedMode => exact ownedRequest_refuses h (by simp [writeMapRegionOwner, hm])
  case outOfRange => exact ownedRequest_refuses h (by simp [writeMapRegionOwner, hm, validRegion_eq_none hv])
  case written =>
    have hspan : (regionOf a).map.span = span := span_mapNamed _
    have htop : (regionOf a).map.top = top := top_mapNamed _
    have hmode : (s.taken q.port).mode ≠ .run := by simp [hm]
    have answered : exec (.writeMapRegion q a l) s =
        .next (replied q 0xA2 .ok (u16 (l.filter (top < ·)).length) (writeRegion (regionOf a) l (s.taken q.port))) :=
      ownedRequest_accepts h (by
        simp [writeMapRegionOwner, hm, validRegion_eq_some hv, saturatedCount_eq, htop])
    have hlength : (if a.map = 0 then s.cal.dark else s.cal.gain).length = span * span := by
      simp only [span]
      split_ifs <;> assumption
    refine ⟨written (regionOf a) l (if a.map = 0 then s.cal.dark else s.cal.gain),
      s.linkTether.filter fun x => !x.overlaps (regionOf a), s.linkService.filter fun x => !x.overlaps (regionOf a),
      ?length, fun i j hi hj => ?entry, fun link hlink => hlink ▸ filter_overlaps hv link, fun hlink => by simp [hlink],
      fun link hlink => hlink ▸ filter_overlaps hv link, fun hlink => by simp [hlink], ?next⟩
    case length => rw [length_written, hlength]
    case entry =>
      rw [← hspan] at hi hj hlength ⊢
      rw [← htop]
      have entry := getD_written_entry (regionValid.columns hv) hl hlength hi hj
      rwa [holds_iff] at entry
    case next =>
      rw [answered]
      by_cases hdarkMap : a.map = 0
      · rw [writeRegion_dark _ _ _ (if_pos hdarkMap) hmode]
        simp only [if_pos hdarkMap, State.taken_cal, State.taken_linkTether, State.taken_linkService]
      · rw [writeRegion_gain _ _ _ (if_neg hdarkMap) hmode]
        simp only [if_neg hdarkMap, State.taken_cal, State.taken_linkTether, State.taken_linkService]

/-- Settles O40: with the port's link the state is that of a region write after the link was made absent. -/
theorem conditionalWriteNeedsLink : Obligations.ConditionalWriteNeedsLink := by
  intro q a l s h span valid link
  refine ⟨fun hv => ?outOfRange, fun hv hlink => ?linkBroken, fun hv hlink => ?written⟩
  case outOfRange => exact ownedRequest_refuses h (by simp [writeMapRegionConditionalOwner, validRegion_eq_none hv])
  case linkBroken =>
    exact ownedRequest_refuses h (by
      rw [writeMapRegionConditionalOwner, validRegion_eq_some hv]
      exact if_neg (by rwa [mapLink_taken]))
  case written =>
    have answered : exec (.writeMapRegionConditional q a l) s = .next (replied q 0xA3 .ok
        (u16 (l.filter ((if a.map = 0 then 1023 else 4095) < ·)).length)
        (writeRegion link l ((s.taken q.port).setMapLink q.port none))) := by
      refine ownedRequest_accepts h ?_
      rw [writeMapRegionConditionalOwner, validRegion_eq_some hv, ← top_mapNamed, ← saturatedCount_eq]
      exact if_pos (by rwa [mapLink_taken])
    have hworking : (writeRegion link l ((s.taken q.port).setMapLink q.port none)).workingMap link.map =
        written link l (s.workingMap link.map) := by
      rw [workingMap_writeRegion, workingMap_setMapLink, workingMap_taken]
    refine ⟨_, answered, ?port, ?other, fun k hk hkl hin => ?entry, fun n hn => ?kept, fun hm => ?run, fun hm => ?setup, ?frame⟩
    case port => simp
    case other => simp
    case entry =>
      have hki : k < link.indices.length := by rwa [indices_length]
      rw [List.getD_eq_getElem _ _ hki] at hin ⊢
      rw [hworking]
      exact getD_written (regionValid.columns hv) hki hkl hin
    case kept => rw [hworking, getD_written_of_not_mem hn]
    case run => simp [cond_writeRegion_run, hm]
    case setup =>
      have hmode : ((s.taken q.port).setMapLink q.port none).mode ≠ .run := by simp [hm]
      by_cases hdarkMap : a.map = 0
      · rw [writeRegion_dark _ _ _ (if_pos hdarkMap) hmode]
        simp [hdarkMap]
      · rw [writeRegion_gain _ _ _ (if_neg hdarkMap) hmode]
        simp [hdarkMap]
    case frame => simpa using writeRegion_frame link l ((s.taken q.port).setMapLink q.port none)

end Sys2Proof.Machine.Conditioning

/-! Proofs: reads of the calibration maps, acquisitions and the gain map that a flat-field acquisition forms. -/

namespace Sys2Proof.Machine.CalibrationMaps

open Conditioning

/-! ### Reads of a map region (R42, R43) -/

theorem code_mapNamed {n : Nat} (hn : n ≤ 1) : (mapNamed n).code = n := (code_eq_iff hn).mpr rfl

theorem workingMap_mapNamed (s : State) (n : Nat) :
    s.workingMap (mapNamed n) = if n = 0 then s.cal.dark else s.cal.gain := apply_ite s.workingMap _ _ _

/-- The entries of a region in a reply: its rows in turn, and in each row its columns. -/
theorem entries_regionEntries (r : MapLink) (s : State) :
    entries u16 (s.regionEntries r) =
      (List.range r.h).flatMap fun j => (List.range r.w).flatMap fun i =>
        u16 ((s.workingMap r.map).getD (r.map.span * (r.y0 + j) + (r.x0 + i)) 0) := by
  simp only [entries, State.regionEntries, MapLink.indices, List.flatMap_map, List.flatMap_assoc]

/-- The data of a map read, in the terms of the request. -/
theorem regionData_taken {a : RegionArg} (hv : regionValid a) (s : State) (p : Port) :
    regionData (regionOf a) (s.taken p) =
      u8 a.map ++ u8 a.x0 ++ u8 a.y0 ++ u8 a.w ++ u8 a.h ++
        ((List.range a.h).flatMap fun j => (List.range a.w).flatMap fun i =>
          u16 ((if a.map = 0 then s.cal.dark else s.cal.gain).getD
            ((if a.map = 0 then 32 else 33) * (a.y0 + j) + (a.x0 + i)) 0)) := by
  rw [regionData, entries_regionEntries, workingMap_taken]
  simp only [regionOf, workingMap_mapNamed, span_mapNamed, code_mapNamed hv.1]

/-- Settles O38: a valid region's data are read from the state in which the request is taken, and the linked read sets the
link of its own port on that state. -/
theorem mapRegionReads : Obligations.MapRegionReads := by
  refine ⟨fun q a s h => ?plain, fun q a s h => ?linked⟩
  case plain =>
    by_cases hv : regionValid a
    · refine (ownedRequest_accepts h ?_).trans (congrArg _ (if_pos hv).symm)
      rw [readMapRegionOwner, validRegion_eq_some hv]
      exact congrArg (okWith · _) (regionData_taken hv s q.port)
    · refine (ownedRequest_refuses h ?_).trans (congrArg _ (if_neg hv).symm)
      rw [readMapRegionOwner, validRegion_eq_none hv]
  case linked =>
    by_cases hv : regionValid a
    · refine (ownedRequest_accepts h ?_).trans (congrArg _ (if_pos hv).symm)
      rw [readMapRegionLinkedOwner, validRegion_eq_some hv]
      refine congrArg₂ okWith (regionData_taken hv s q.port) ?_
      cases q.port <;> rfl
    · refine (ownedRequest_refuses h ?_).trans (congrArg _ (if_neg hv).symm)
      rw [readMapRegionLinkedOwner, validRegion_eq_none hv]

/-! ### Acquisitions (R51 to R53, R59) -/

theorem frameCounts_contains (n : Nat) : frameCounts.contains n = true ↔ n ∈ [1, 2, 4, 8, 16, 32, 64] :=
  List.contains_iff_mem

/-- The range check of a flat-field start, as the model and as the statement put it (R53). -/
theorem flatRanges_iff (n target : Nat) :
    (frameCounts.contains n = true ∧ 1 ≤ target ∧ target ≤ 4095) ↔
      ¬ (n ∉ [1, 2, 4, 8, 16, 32, 64] ∨ target < 1 ∨ 4095 < target) := by
  rw [frameCounts_contains, not_or, not_or, not_not, Nat.not_lt, Nat.not_lt]

/-- A dark start leaves the ring. -/
theorem startAcquisition_dark (n : Nat) (s : State) :
    startAcquisition .dark n 0 s =
      { s with
        cal.counter := (s.cal.counter + 1) % 256
        cal.acq := some ⟨.dark, n, 0, (s.cal.counter + 1) % 256, 0, List.replicate 1024 0⟩ } := rfl

/-- A flat-field start holds the balance loop. -/
theorem startAcquisition_flat (n target : Nat) (s : State) :
    startAcquisition .flat n target s =
      { s with
        cal.counter := (s.cal.counter + 1) % 256
        cal.acq := some ⟨.flat, n, 0, (s.cal.counter + 1) % 256, target, List.replicate 1024 0⟩
        ring.flatHold := true } := rfl

/-- An acquisition in flight ends: its context and its hold are gone, and its notice is queued (R59). -/
theorem endAcquisition_eq {a : Acquisition} {s : State} (h : s.cal.acq = some a) (o : AcqOutcome) :
    endAcquisition o s =
      { s with
        cal.acq := none
        ring.flatHold := false
        tether := s.tether.pushNotice ⟨0xF3, 0, u8 a.kind.code ++ u8 o.code ++ u8 a.taken⟩ } := by
  rw [endAcquisition, h]
  rfl

theorem abortAcquisitionOwner_idle {s : State} (h : s.cal.acq = none) :
    abortAcquisitionOwner s = refuse .noOperation s := by simp [abortAcquisitionOwner, h]

theorem abortAcquisitionOwner_inFlight {s : State} {a : Acquisition} (h : s.cal.acq = some a) :
    abortAcquisitionOwner s = okWith [] (endAcquisition .aborted s) := by simp [abortAcquisitionOwner, h]

/-- Settles O41: each start is its owner's chain of checks; an abort ends the acquisition on the state in which the reply is
queued. -/
theorem acquisitionsStartAndAbort : Obligations.AcquisitionsStartAndAbort := by
  intro q s
  refine ⟨fun n h => ?dark, fun n target h => ?flat, fun h => ?abort⟩
  case dark =>
    refine (ownedRequest_answers h).trans (congrArg _ ?_)
    simp only [startDarkAcquisitionOwner, frameCounts_contains, ite_not, startAcquisition_dark, State.taken_mode,
      State.taken_cal]
    split_ifs <;> rfl
  case flat =>
    refine (ownedRequest_answers h).trans (congrArg _ ?_)
    simp only [startFlatFieldAcquisitionOwner, flatRanges_iff, ite_not, startAcquisition_flat, State.taken_mode,
      State.taken_cal, State.taken_ring]
    split_ifs <;> rfl
  case abort =>
    obtain ⟨hwell, htakes, hboot⟩ := h
    have served := recordingRequest_served q _ abortAcquisitionOwner s hwell htakes hboot
    refine ⟨fun hacq => served.trans (congrArg _ ?idle), fun a hacq => served.trans (congrArg _ ?inFlight)⟩
    case idle =>
      have owner := abortAcquisitionOwner_idle (s := s.taken q.port) (by simpa using hacq)
      rw [answerFirst_reply _ _ _ _ _ _ (congrArg _ owner), abortAcquisitionOwner_idle (by simpa using hacq)]
      rfl
    case inFlight =>
      have owner := abortAcquisitionOwner_inFlight (s := s.taken q.port) (a := a) (by simpa using hacq)
      rw [answerFirst_reply _ _ _ _ _ _ (congrArg _ owner), abortAcquisitionOwner_inFlight (a := a) (by simpa using hacq)]
      exact endAcquisition_eq (by simpa using hacq) .aborted

/-! ### The gain map of a flat-field acquisition (R57) -/

/-- The zone columns, or rows, on either side of a node are those in the map that end or begin at it. -/
theorem mem_zonesBeside {i a : Nat} (hi : i < 33) : a ∈ zonesBeside i ↔ a < 32 ∧ (a = i ∨ a + 1 = i) := by
  unfold zonesBeside
  split_ifs <;> simp <;> omega

theorem nodup_zonesBeside (i : Nat) : (zonesBeside i).Nodup := by
  unfold zonesBeside
  split_ifs <;> simp
  omega

/-- All zones of the map, row by row. -/
def allZones : List (Nat × Nat) := (List.range 32).flatMap fun y => (List.range 32).map fun x => (x, y)

theorem mem_allZones (z : Nat × Nat) : z ∈ allZones ↔ z.1 < 32 ∧ z.2 < 32 := by
  obtain ⟨x, y⟩ := z
  simp [allZones, and_comm]

theorem nodup_allZones : allZones.Nodup := by
  have swapped : allZones = (List.range 32 ×ˢ List.range 32).map Prod.swap := by
    simp [allZones, SProd.sprod, List.product, List.map_flatMap, Function.comp_def]
  rw [swapped]
  exact (List.nodup_range.product List.nodup_range).map Prod.swap_injective

/-- The zones that the model visits at a node are, in another order, all zones that touch it. -/
theorem touchingZones_perm {i j : Nat} (hi : i < 33) (hj : j < 33) :
    (touchingZones i j).Perm
      (allZones.filter fun z => decide ((z.1 = i ∨ z.1 + 1 = i) ∧ (z.2 = j ∨ z.2 + 1 = j))) := by
  have visited : touchingZones i j = zonesBeside i ×ˢ zonesBeside j := rfl
  refine (List.perm_ext_iff_of_nodup ?_ (nodup_allZones.filter _)).mpr fun z => ?_
  · exact visited ▸ (nodup_zonesBeside i).product (nodup_zonesBeside j)
  · rw [visited, List.mem_product, mem_zonesBeside hi, mem_zonesBeside hj, List.mem_filter, mem_allZones, decide_eq_true_eq]
    tauto

theorem acquiredGain_eq (frames target : Nat) (totals : List Nat) :
    acquiredGain frames target totals =
      (List.range 1089).map fun k => gainFor target (nodeMean frames totals (k % 33) (k / 33)) :=
  flatMap_rows (fun j i => gainFor target (nodeMean frames totals i j)) 33 33

/-- Settles O33: the mean does not depend on the order of the zones. -/
theorem flatFieldGains : Obligations.FlatFieldGains := by
  intro frames target totals i j hi hj zones m
  have hm : nodeMean frames totals i j = m := by
    have order : (touchingZones i j).Perm zones := touchingZones_perm hi hj
    rw [nodeMean, order.length_eq, (order.map _).sum_eq]
  have hk : 33 * j + i < 1089 := by omega
  rw [acquiredGain_eq]
  refine ⟨by simp, ?_⟩
  rw [List.getD_eq_getElem _ _ (by simpa using hk), List.getElem_map, List.getElem_range, Nat.mul_add_mod, Nat.mod_eq_of_lt hi,
    Nat.mul_add_div (by decide), Nat.div_eq_of_lt hi, Nat.add_zero, hm]
  rfl

end Sys2Proof.Machine.CalibrationMaps

/-! Proofs: the Head Input Monitor's failed transfers and acknowledged reads, and the ring that follows them. -/

namespace Sys2Proof.Machine.HeadInputs

open CalibrationMaps

/-! ### A raised kind and the other kinds (R159) -/

theorem faultKind_ofCode_code (k : FaultKind) : FaultKind.ofCode k.code = some k := by cases k <;> rfl

theorem faultKind_code_injective : Function.Injective FaultKind.code := fun a b h =>
  Option.some.inj (by rw [← faultKind_ofCode_code a, h, faultKind_ofCode_code b])

theorem faultKind_code_lt (k : FaultKind) : k.code < 12 := by cases k <;> decide

section
variable (k : FaultKind) (s : State)

@[simp] theorem raise_ring : (raise k s).ring = s.ring := by
  obtain ⟨f, t, h⟩ := raise_effect k s
  rw [h]

@[simp] theorem raise_cal : (raise k s).cal = s.cal := by
  obtain ⟨f, t, h⟩ := raise_effect k s
  rw [h]

@[simp] theorem raise_head : (raise k s).head = s.head := by
  obtain ⟨f, t, h⟩ := raise_effect k s
  rw [h]

@[simp] theorem raise_mode : (raise k s).mode = s.mode := by
  obtain ⟨f, t, h⟩ := raise_effect k s
  rw [h]

@[simp] theorem raise_capture : (raise k s).capture = s.capture := by
  obtain ⟨f, t, h⟩ := raise_effect k s
  rw [h]

@[simp] theorem raise_slots : (raise k s).slots = s.slots := by
  obtain ⟨f, t, h⟩ := raise_effect k s
  rw [h]

@[simp] theorem raise_warp : (raise k s).warp = s.warp := by
  obtain ⟨f, t, h⟩ := raise_effect k s
  rw [h]

/-- A raise does not look at the head inputs. -/
theorem raise_withHead (h : Head) : raise k { s with head := h } = { raise k s with head := h } := by
  unfold raise
  dsimp only
  split
  · rfl
  · split <;> rfl

/-- A raise changes its own kind's entry, which is SET afterwards. -/
theorem raise_entries :
    ∃ f : FaultEntry → FaultEntry, (f (s.faults.entry k)).set = true ∧
      (raise k s).faults.entries = s.faults.entries.modify k.code f := by
  unfold raise
  split
  · rename_i hset
    exact ⟨_, hset, rfl⟩
  · dsimp only
    split <;> exact ⟨fun e => { e with set := true, tag := some s.raiseTag, count := min 65535 (e.count + 1) }, rfl, rfl⟩

@[simp] theorem length_raise : (raise k s).faults.entries.length = s.faults.entries.length := by
  obtain ⟨f, -, h⟩ := raise_entries k s
  rw [h, List.length_modify]

variable {k s}

theorem entry_raise_other {j : FaultKind} (h : k ≠ j) : (raise k s).faults.entry j = s.faults.entry j := by
  obtain ⟨f, -, hf⟩ := raise_entries k s
  have hcode : k.code ≠ j.code := faultKind_code_injective.ne h
  simp [FaultTable.entry, hf, List.getD_eq_getElem?_getD, hcode]

theorem set_raise (h : s.faults.entries.length = 12) : ((raise k s).faults.entry k).set = true := by
  obtain ⟨f, hset, hf⟩ := raise_entries k s
  have hk : k.code < s.faults.entries.length := h ▸ faultKind_code_lt k
  rw [FaultTable.entry, List.getD_eq_getElem _ _ hk] at hset
  rw [FaultTable.entry, hf, List.getD_eq_getElem _ _ (by simpa using hk)]
  simpa using hset

end

/-! ### The supply demand (R155) -/

theorem requestSupplyWrite_eq (v : Bool) (s : State) :
    requestSupplyWrite v s = { s with head := s.head.supplyAsked v } := by
  unfold requestSupplyWrite Head.supplyAsked
  by_cases hsilent : s.head.silent = true
  · simp only [if_pos hsilent]
  · simp only [if_neg hsilent]
    match htransfer : s.head.transfer with
    | none => simp
    | some .read => simp
    | some (.supplyWrite w) => by_cases hw : w = v <;> simp [hw]
    | some (.setUp w) => by_cases hw : w = v <;> simp [hw]

theorem setDemand_eq (v : Bool) (s : State) :
    setDemand v s =
      { s with ring.demand := v, head := if s.ring.demand = v then s.head else s.head.supplyAsked v } := by
  unfold setDemand
  split
  · rename_i h
    subst h
    rfl
  · exact requestSupplyWrite_eq v _

/-! ### The ring state and the flat-field acquisition (R61) -/

theorem flatInFlight_eq_true {s : State} {a : Acquisition} (h : s.cal.acq = some a) (hflat : a.kind = .flat) :
    s.flatInFlight = true := by simp [State.flatInFlight, h, hflat]

/-- From `s` to `t` a flat-field acquisition follows the ring's state: a change to DIM, LOCKED_OFF or ABSENT ends it FAILED with
its notice and without its hold of the loop; otherwise nothing of it changes, and a dark one goes on (R61). -/
structure AcquisitionFollows (s t : State) : Prop where
  ended : ∀ a, s.cal.acq = some a → a.kind = .flat → t.ring.state ≠ s.ring.state → t.ring.state.endsFlat = true →
    t.cal = { s.cal with acq := none } ∧ t.ring.flatHold = false ∧
    t.tether = s.tether.pushNotice ⟨0xF3, 0, u8 1 ++ u8 2 ++ u8 a.taken⟩
  kept : (∀ a, s.cal.acq = some a → a.kind = .dark) ∨ t.ring.state = s.ring.state ∨ t.ring.state.endsFlat = false →
    t.cal = s.cal ∧ t.ring.flatHold = s.ring.flatHold ∧ t.tether = s.tether

section
variable (x : RingState) (s : State)

/-- A change of the ring's state in its two cases: it ends the flat-field acquisition in flight, or it does not. -/
theorem setRingState_cases :
    (∃ a, s.cal.acq = some a ∧ a.kind = .flat ∧ s.ring.state ≠ x ∧ x.endsFlat = true ∧ setRingState x s =
      { s with
        ring.state := x, ring.flatHold := false, sup.ring := x, cal.acq := none
        tether := s.tether.pushNotice ⟨0xF3, 0, u8 1 ++ u8 2 ++ u8 a.taken⟩ }) ∨
    ((s.flatInFlight = false ∨ s.ring.state = x ∨ x.endsFlat = false) ∧
      ∃ u, setRingState x s = { s with ring.state := x, sup := u }) := by
  unfold setRingState
  split
  case isTrue hx =>
    subst hx
    exact .inr ⟨.inr (.inl rfl), _, rfl⟩
  case isFalse hx =>
    dsimp only
    split
    case isTrue hends =>
      obtain ⟨hends, hflat⟩ := hends
      obtain ⟨a, hacq, hkind⟩ : ∃ a, s.cal.acq = some a ∧ a.kind = .flat := by
        simpa [State.flatInFlight, Option.any_eq_true] using hflat
      refine .inl ⟨a, hacq, hkind, hx, hends, ?_⟩
      rw [endAcquisition_eq (s := { s with ring.state := x, sup.ring := x }) hacq, hkind]
      rfl
    case isFalse hends =>
      refine .inr ⟨?_, _, rfl⟩
      cases hflat : s.flatInFlight
      · exact .inl rfl
      · exact .inr (.inr (Bool.eq_false_iff.mpr fun h => hends ⟨h, hflat⟩))

theorem acquisitionFollows_setRingState : AcquisitionFollows s (setRingState x s) := by
  obtain ⟨b, hacq, hkind, hx, hends, h⟩ | ⟨hkeeps, u, h⟩ := setRingState_cases x s
  case inl =>
    rw [h]
    refine ⟨fun a ha _ _ _ => ?_, fun hkeeps => ?_⟩
    · cases hacq.symm.trans ha
      exact ⟨rfl, rfl, rfl⟩
    · obtain hdark | hsame | hother := hkeeps
      · exact absurd (hdark b hacq) (by simp [hkind])
      · exact absurd hsame.symm hx
      · exact absurd hends (by simpa using hother)
  case inr =>
    rw [h]
    refine ⟨fun a ha hflat hne hends => ?_, fun _ => ⟨rfl, rfl, rfl⟩⟩
    obtain hnone | hsame | hother := hkeeps
    · exact absurd (flatInFlight_eq_true ha hflat) (by simp [hnone])
    · exact absurd hsame.symm hne
    · exact absurd hends (by simpa using hother)

end

/-! ### The ring locked off (R125, R128) -/

/-- A ring that may be lit: LIT, DIM or ABSENT. -/
abbrev mayLight (x : RingState) : Prop := x = .lit ∨ x = .dim ∨ x = .absent

theorem ringState_cases (x : RingState) : x = .off ∨ x = .lockedOff ∨ mayLight x := by
  cases x <;> simp [mayLight]

/-- From `s` to `t` the ring is locked off: codes 0, the cause noted, the demand OFF and, when it changes, its write asked for. -/
structure RingLocked (c : LockCause) (s t : State) : Prop where
  frame : t = { s with
    ring := { s.ring with
      state := .lockedOff, codes := zeroCodes, causes := s.ring.causes.join c, demand := false, flatHold := t.ring.flatHold }
    head := if s.ring.demand = false then s.head else s.head.supplyAsked false
    sup := t.sup, cal := t.cal, tether := t.tether }
  acquisition : AcquisitionFollows s t

section
variable (c : LockCause) (s : State)

theorem ringLocked_lockOff : RingLocked c s (lockOff c s) := by
  have follows := acquisitionFollows_setRingState .lockedOff
    { s with ring.codes := zeroCodes, ring.causes := s.ring.causes.join c }
  rw [lockOff, setDemand_eq]
  refine ⟨?_, follows.ended, follows.kept⟩
  obtain ⟨a, -, -, -, -, h⟩ | ⟨-, u, h⟩ := setRingState_cases .lockedOff
    { s with ring.codes := zeroCodes, ring.causes := s.ring.causes.join c } <;> rw [h]

variable {c s}

theorem RingLocked.state {t : State} (h : RingLocked c s t) : t.ring.state = .lockedOff :=
  congrArg (fun t : State => t.ring.state) h.frame

variable (c)

theorem headLock_off (h : s.ring.state = .off) : headLock c s = s := by simp [headLock, h]

theorem headLock_lockedOff (h : s.ring.state = .lockedOff) :
    headLock c s = { s with ring.causes := s.ring.causes.join c } := by simp [headLock, h]

theorem ringLocked_headLock (h : mayLight s.ring.state) : RingLocked c s (headLock c s) := by
  have locks : headLock c s = lockOff c s := by
    obtain h | h | h := h <;> simp [headLock, h]
  exact locks ▸ ringLocked_lockOff c s

end

/-! ### Silence (R152, R156) -/

/-- The monitor's own state after a transfer has failed and silenced it: a failed write leaves the supply line UNKNOWN. -/
def silencedBy (x : Transfer) (h : Head) : Head :=
  { h.silenced with supply := if x = .read then h.supply else .unknown }

theorem becomeSilent_noteFailure (x : Transfer) (s : State) :
    becomeSilent (noteFailure x s) = headLock .silent { raise .expanderSilent s with head := silencedBy x s.head } := by
  rw [becomeSilent, ← raise_withHead]
  cases x <;> rfl

theorem headLock_head_of_silent {s : State} (h : s.head.silent = true) (c : LockCause) : (headLock c s).head = s.head := by
  obtain hoff | hlocked | hlights := ringState_cases s.ring.state
  · rw [headLock_off c hoff]
  · rw [headLock_lockedOff c hlocked]
  · rw [(ringLocked_headLock c hlights).frame, Head.supplyAsked, if_pos h, ite_self]

/-- The end of a transfer that is not acknowledged after its retry. -/
theorem exec_refusedAgain {x : Transfer} {i : Instr} {s : State} (htransfer : s.head.transfer = some x)
    (hsilent : s.head.silent = false) (hretried : s.head.retried = true)
    (hi : x = .read ∧ (∃ values start, i = .inputReadEnd false values start) ∨
      (∃ v, x = .supplyWrite v) ∧ i = .supplyWriteEnd false ∨ (∃ v, x = .setUp v) ∧ i = .setUpWriteEnd false) :
    exec i s = .next (becomeSilent (noteFailure x s)) := by
  have refused : transferRefused x s = becomeSilent (noteFailure x s) := by simp [transferRefused, hsilent, hretried]
  rw [← refused]
  obtain ⟨rfl, values, start, rfl⟩ | ⟨⟨v, rfl⟩, rfl⟩ | ⟨⟨v, rfl⟩, rfl⟩ := hi
  · exact congrArg Host.Outcome.next (by simp [inputReadEnds, htransfer])
  · exact congrArg Host.Outcome.next (by simp [supplyWriteEnds, htransfer])
  · exact congrArg Host.Outcome.next (by simp [setUpWriteEnds, htransfer])

/-- Settles O57: the silenced monitor asks for no write, and the lock's effect depends on the ring's state alone. -/
theorem silenceLocksRing : Obligations.SilenceLocksRing := by
  intro x i s htransfer hsilent hretried hi
  have next := exec_refusedAgain htransfer hsilent hretried hi
  rw [becomeSilent_noteFailure] at next
  generalize hu : ({ raise .expanderSilent s with head := silencedBy x s.head } : State) = u at next
  have hring : u.ring = s.ring := by rw [← hu, raise_ring]
  have hcal : u.cal = s.cal := by rw [← hu, raise_cal]
  have htether : u.tether = (raise .expanderSilent s).tether := by rw [← hu]
  have hhead : (headLock .silent u).head = silencedBy x s.head := by
    rw [headLock_head_of_silent (by rw [← hu]; rfl), ← hu]
  have locked (h : mayLight s.ring.state) : RingLocked .silent u (headLock .silent u) :=
    ringLocked_headLock _ (hring ▸ h)
  have stays (h : s.ring.state = .off) : headLock .silent u = u := headLock_off _ (hring ▸ h)
  have joins (h : s.ring.state = .lockedOff) :
      headLock .silent u = { u with ring.causes := u.ring.causes.join .silent } := headLock_lockedOff _ (hring ▸ h)
  obtain ⟨r, sup, c, tether, h, effect⟩ := headLock_effect .silent u
  refine ⟨_, next, ?silent, ?transfer, ?pendingRead, ?pendingWrite, fun n => ?line, fun hx => ?readSupply,
    fun hx => ?writeSupply, ?faults, fun hoff => ?off, fun hlocked => ?lockedOff, fun hlights => ?lights,
    fun a ha hflat hlights => ?flat, fun hkept => ?kept, ?capture, ?slots, ?warp, ?mode⟩
  case silent | transfer | pendingRead | pendingWrite => rw [hhead]; rfl
  case line => rw [hhead]; cases n <;> rfl
  case readSupply => rw [hhead, silencedBy, if_pos hx]
  case writeSupply => rw [hhead, silencedBy, if_neg hx]
  case faults => rw [effect, ← hu]
  case capture => rw [effect, ← hu, raise_capture]
  case slots => rw [effect, ← hu, raise_slots]
  case warp => rw [effect, ← hu, raise_warp]
  case mode => rw [effect, ← hu, raise_mode]
  case off => rw [stays hoff, hring]
  case lockedOff => rw [joins hlocked, hring]; rfl
  case lights =>
    rw [(locked hlights).frame, hring]
    exact ⟨rfl, rfl, rfl, rfl⟩
  case flat =>
    have state := (locked hlights).state
    rw [← hcal, ← htether]
    refine (locked hlights).acquisition.ended a (by rwa [hcal]) hflat ?_ (by rw [state]; rfl)
    rw [state, hring]
    obtain h | h | h := hlights <;> simp [h]
  case kept =>
    rw [← hcal, ← hring, ← htether]
    obtain hoff | hlocked | hlights := ringState_cases s.ring.state
    · rw [stays hoff]
      exact ⟨rfl, rfl, rfl⟩
    · rw [joins hlocked]
      exact ⟨rfl, rfl, rfl⟩
    · refine (locked hlights).acquisition.kept (.inl ?_)
      rw [hcal]
      refine hkept.resolve_right ?_
      obtain h | h | h := hlights <;> simp [h]

end Sys2Proof.Machine.HeadInputs

/-! Proofs: an acknowledged read of the head inputs, input by input (R153, R154). -/

namespace Sys2Proof.Machine.InputReads

open HeadInputs

/-! ### One line and the value read (R153) -/

/-- What a line becomes when it meets a read value. -/
def met (v : Bool) (start : Nat) (l : InputLine) : InputLine :=
  if l.accepted = .ofRead v then { l with candidate := none }
  else
    match l.candidate with
    | none => { l with candidate := some (v, start), timer := true }
    | some (c, stamp) =>
      if c = v then if stamp + confirmationTime ≤ start then { l with accepted := .ofRead v, candidate := none } else l
      else { l with candidate := some (v, start), timer := true }

section
variable {v : Bool} {start n : Nat} {l : InputLine}

theorem met_of_accepted (h : l.accepted = .ofRead v) : met v start l = { l with candidate := none } := if_pos h

theorem met_of_new (h : l.accepted ≠ .ofRead v) (hc : ∀ n, l.candidate ≠ some (v, n)) :
    met v start l = { l with candidate := some (v, start), timer := true } := by
  rw [met, if_neg h]
  match hl : l.candidate with
  | none => rfl
  | some (c, stamp) =>
    have hne : c ≠ v := fun hcv => hc stamp (hcv ▸ hl)
    simp [hne]

theorem met_of_candidate (h : l.accepted ≠ .ofRead v) (hc : l.candidate = some (v, n)) :
    met v start l = if n + 10000 ≤ start then { l with accepted := .ofRead v, candidate := none } else l := by
  rw [met, if_neg h, hc]
  exact if_pos rfl

theorem accepted_met (h : (met v start l).accepted ≠ l.accepted) : (met v start l).accepted = .ofRead v := by
  by_cases ha : l.accepted = .ofRead v
  · exact absurd (by rw [met_of_accepted ha]) h
  by_cases hc : ∃ n, l.candidate = some (v, n)
  · obtain ⟨n, hc⟩ := hc
    rw [met_of_candidate ha hc] at h ⊢
    split at h
    · rw [if_pos ‹_›]
    · exact absurd rfl h
  · exact absurd (by rw [met_of_new ha (not_exists.mp hc)]) h

end

theorem line_setLine (h : Head) (i j : HeadInput) (l : InputLine) :
    (h.setLine i l).line j = if j = i then l else h.line j := by
  cases i <;> cases j <;> rfl

theorem setLine_line (h : Head) (i : HeadInput) : h.setLine i (h.line i) = h := by cases i <;> rfl

/-- The state with a new line of one input. -/
def withLine (i : HeadInput) (l : InputLine) (s : State) : State := { s with head := s.head.setLine i l }

/-- The line is met, and a changed accepted value is acted on. -/
theorem meetInput_eq (i : HeadInput) (v : Bool) (start : Nat) (s : State) :
    meetInput i v start s =
      if (met v start (s.head.line i)).accepted = (s.head.line i).accepted then withLine i (met v start (s.head.line i)) s
      else actOnAccepted i v (withLine i (met v start (s.head.line i)) s) := by
  unfold meetInput
  by_cases ha : (s.head.line i).accepted = .ofRead v
  · rw [if_pos ha, met_of_accepted ha]
    exact (if_pos rfl).symm
  rw [if_neg ha]
  match hc : (s.head.line i).candidate with
  | none =>
    rw [met_of_new ha (by simp [hc])]
    exact (if_pos rfl).symm
  | some (c, stamp) =>
    by_cases hcv : c = v
    · subst hcv
      rw [met_of_candidate ha hc]
      by_cases hstart : stamp + 10000 ≤ start
      · rw [if_pos hstart]
        refine Eq.trans ?_ (if_neg (Ne.symm ha)).symm
        exact (if_pos rfl).trans (if_pos hstart)
      · rw [if_neg hstart, if_pos rfl, withLine, setLine_line]
        exact (if_pos rfl).trans (if_neg hstart)
    · rw [met_of_new ha (by simp [hc, hcv])]
      exact (if_neg hcv).trans (if_pos rfl).symm

/-! ### Notices wait in the order in which they are queued (R170) -/

/-- The records being sent or waiting as notices. -/
def queued (t : Tether) : List Record := t.sending.toList ++ t.notices

theorem queued_takeNext {t : Tether} : queued t ⊆ queued t.takeNext := by
  unfold Tether.takeNext
  split
  · rename_i h
    intro r hr
    have hr : r ∈ t.notices := by simpa [queued, h.2] using hr
    split <;> simp_all [queued]
  · exact fun _ => id

theorem notices_takeNext (t : Tether) : t.takeNext.notices.length ≤ t.notices.length := by
  unfold Tether.takeNext
  split
  · split <;> simp_all
  · exact le_rfl

@[simp] theorem link_takeNext (t : Tether) : t.takeNext.link = t.link := by
  unfold Tether.takeNext
  split
  · split <;> rfl
  · rfl

/-- From `t` to `u` at most `n` notices were queued, and no record was lost. -/
structure NotesAtMost (n : Nat) (t u : Tether) : Prop where
  link : u.link = t.link
  length : u.notices.length ≤ t.notices.length + n
  queued : queued t ⊆ queued u

theorem NotesAtMost.refl (t : Tether) : NotesAtMost 0 t t := ⟨rfl, le_rfl, fun _ => id⟩

theorem NotesAtMost.trans {m n : Nat} {t u w : Tether} (h : NotesAtMost m t u) (h' : NotesAtMost n u w) :
    NotesAtMost (m + n) t w :=
  ⟨h'.link.trans h.link, by have := h.length; have := h'.length; omega, fun _ hr => h'.queued (h.queued hr)⟩

theorem NotesAtMost.mono {m n : Nat} {t u : Tether} (h : NotesAtMost m t u) (hmn : m ≤ n) : NotesAtMost n t u :=
  ⟨h.link, by have := h.length; omega, h.queued⟩

theorem notesAtMost_pushNotice (t : Tether) (r : Record) : NotesAtMost 1 t (t.pushNotice r) := by
  unfold Tether.pushNotice
  split
  · refine ⟨link_takeNext _, (notices_takeNext _).trans (by simp), fun x hx => queued_takeNext ?_⟩
    simp only [queued, List.mem_append] at hx ⊢
    tauto
  · exact (NotesAtMost.refl t).mono (by decide)

theorem mem_queued_pushNotice {t : Tether} (r : Record) (hlink : t.link = .up) (hroom : t.notices.length < 8) :
    r ∈ queued (t.pushNotice r) := by
  rw [Tether.pushNotice, if_pos ⟨hlink, hroom⟩]
  exact queued_takeNext (by simp [queued])

theorem notesAtMost_raise (k : FaultKind) (s : State) : NotesAtMost 1 s.tether (raise k s).tether := by
  unfold raise
  split
  · exact (NotesAtMost.refl _).mono (by decide)
  · dsimp only
    split
    · exact (NotesAtMost.refl _).mono (by decide)
    · exact notesAtMost_pushNotice _ _

/-! ### What the acts of one input leave alone -/

/-- A state without what the acceptance of an input can change. -/
def untouched (s : State) : State :=
  { s with
    head := { s.head with
      leak := .atReset, warm := .atReset, hot := .atReset, present := .atReset, band := none, pendingWrite := none }
    ring := { s.ring with
      band := .normal, bandReported := false, presence := false, presenceReported := false, codes := [], state := .off
      causes := .empty, demand := false, flatHold := false }
    sup := .atReset, cal := .atReset, faults := .atReset, tether := .atReset Straps.atReset }

/-- What LEAK alone changes: the lock causes, the demand, its write, and the entry of HOUSING_LEAK. -/
def leakView (s : State) : LockCauses × Bool × Option Bool × FaultEntry :=
  (s.ring.causes, s.ring.demand, s.head.pendingWrite, s.faults.entry .housingLeak)

/-- What WARM and HOT alone change: the band last reported, the ring's copy, and the entry of HEAD_HOT. -/
def bandView (s : State) : Option Band × Band × Bool × FaultEntry :=
  (s.head.band, s.ring.band, s.ring.bandReported, s.faults.entry .headHot)

/-- What RING_PRESENT alone changes: the ring's presence copy and the entry of RING_ABSENT. -/
def presenceView (s : State) : Bool × Bool × FaultEntry :=
  (s.ring.presence, s.ring.presenceReported, s.faults.entry .ringAbsent)

/-- From `s` to `t` nothing but what input `i` may change has changed, and no line. -/
structure ActKeeps (i : HeadInput) (s t : State) : Prop where
  untouched : untouched t = untouched s
  line : ∀ j, t.head.line j = s.head.line j
  entries : t.faults.entries.length = s.faults.entries.length
  leak : i ≠ .leak → leakView t = leakView s
  band : i ≠ .warm → i ≠ .hot → bandView t = bandView s
  presence : i ≠ .present → presenceView t = presenceView s

theorem ActKeeps.refl (i : HeadInput) (s : State) : ActKeeps i s s :=
  ⟨rfl, fun _ => rfl, rfl, fun _ => rfl, fun _ _ => rfl, fun _ => rfl⟩

theorem ActKeeps.trans {i : HeadInput} {s t u : State} (h : ActKeeps i s t) (h' : ActKeeps i t u) : ActKeeps i s u :=
  ⟨h'.untouched.trans h.untouched, fun j => (h'.line j).trans (h.line j), h'.entries.trans h.entries,
    fun hi => (h'.leak hi).trans (h.leak hi), fun hw hh => (h'.band hw hh).trans (h.band hw hh),
    fun hi => (h'.presence hi).trans (h.presence hi)⟩

/-- The kind that an input's act may raise (R154). -/
def raisedBy : HeadInput → FaultKind
  | .leak => .housingLeak
  | .warm => .headHot
  | .hot => .headHot
  | .present => .ringAbsent

theorem actKeeps_raise (i : HeadInput) (s : State) : ActKeeps i s (raise (raisedBy i) s) := by
  obtain ⟨f, t, h⟩ := raise_effect (raisedBy i) s
  refine ⟨by rw [h]; rfl, fun j => by rw [raise_head], length_raise _ _, fun hi => ?_, fun hw hh => ?_, fun hi => ?_⟩
  · have other : raisedBy i ≠ .housingLeak := by cases i <;> simp_all [raisedBy]
    rw [leakView, entry_raise_other other, raise_ring, raise_head, leakView]
  · have other : raisedBy i ≠ .headHot := by cases i <;> simp_all [raisedBy]
    rw [bandView, entry_raise_other other, raise_ring, raise_head, bandView]
  · have other : raisedBy i ≠ .ringAbsent := by cases i <;> simp_all [raisedBy]
    rw [presenceView, entry_raise_other other, raise_ring, presenceView]

/-! ### From the ring's state to the acquisition (R61) -/

/-- From `s` to `t` neither the ring's state nor an acquisition changes, and at most `n` notices are queued. -/
structure Quiet (n : Nat) (s t : State) : Prop where
  state : t.ring.state = s.ring.state
  cal : t.cal = s.cal
  flatHold : t.ring.flatHold = s.ring.flatHold
  notes : NotesAtMost n s.tether t.tether

theorem Quiet.refl (s : State) : Quiet 0 s s := ⟨rfl, rfl, rfl, .refl _⟩

theorem Quiet.trans {m n : Nat} {s t u : State} (h : Quiet m s t) (h' : Quiet n t u) : Quiet (m + n) s u :=
  ⟨h'.state.trans h.state, h'.cal.trans h.cal, h'.flatHold.trans h.flatHold, h.notes.trans h'.notes⟩

theorem Quiet.mono {m n : Nat} {s t : State} (h : Quiet m s t) (hmn : m ≤ n) : Quiet n s t :=
  ⟨h.state, h.cal, h.flatHold, h.notes.mono hmn⟩

theorem quiet_raise (k : FaultKind) (s : State) : Quiet 1 s (raise k s) :=
  ⟨by rw [raise_ring], raise_cal k s, by rw [raise_ring], notesAtMost_raise k s⟩

theorem quiet_of_follows {s t : State} (h : AcquisitionFollows s t) (hs : t.ring.state = s.ring.state) : Quiet 0 s t :=
  let ⟨hcal, hhold, htether⟩ := h.kept (.inr (.inl hs))
  ⟨hs, hcal, hhold, htether ▸ .refl _⟩

theorem follows_refl (s : State) : AcquisitionFollows s s :=
  ⟨fun _ _ _ h => absurd rfl h, fun _ => ⟨rfl, rfl, rfl⟩⟩

/-- The ring's state changes at most once from `s` to `t`, with at most three notices before. -/
def changesOnce (s t : State) : Prop := ∃ u p n, Quiet 3 s u ∧ AcquisitionFollows u p ∧ Quiet n p t

section
variable {s t : State}

theorem changesOnce.ended (h : changesOnce s t) {a : Acquisition} (ha : s.cal.acq = some a) (hflat : a.kind = .flat)
    (hstate : t.ring.state ≠ s.ring.state) (hends : t.ring.state.endsFlat = true) :
    t.cal = { s.cal with acq := none } ∧ t.ring.flatHold = false ∧
    (s.tether.link = .up → s.tether.notices.length ≤ 4 →
      ⟨0xF3, 0, u8 1 ++ u8 2 ++ u8 a.taken⟩ ∈ queued t.tether) := by
  obtain ⟨u, p, n, before, follows, after⟩ := h
  rw [after.state, ← before.state] at hstate
  obtain ⟨hcal, hhold, htether⟩ := follows.ended a (before.cal ▸ ha) hflat hstate (after.state ▸ hends)
  refine ⟨by rw [after.cal, hcal, before.cal], after.flatHold.trans hhold, fun hlink hroom => after.notes.queued ?_⟩
  rw [htether]
  have := before.notes.length
  exact mem_queued_pushNotice _ (before.notes.link.trans hlink) (by omega)

theorem changesOnce.kept (h : changesOnce s t)
    (hkept : (∀ a, s.cal.acq = some a → a.kind = .dark) ∨ t.ring.state = s.ring.state ∨ t.ring.state.endsFlat = false) :
    t.cal = s.cal ∧ t.ring.flatHold = s.ring.flatHold := by
  obtain ⟨u, p, n, before, follows, after⟩ := h
  rw [after.state, ← before.state, ← before.cal] at hkept
  obtain ⟨hcal, hhold, -⟩ := follows.kept hkept
  exact ⟨after.cal.trans (hcal.trans before.cal), after.flatHold.trans (hhold.trans before.flatHold)⟩

end

/-! ### LEAK accepted (R128, R154 (1)) -/

/-- The monitor is SPEAKING, and its transfer in flight is a read or the set-up write of the demand: a lock's write of OFF then
becomes the pending one (R155 (4)). -/
def asksPending (s : State) : Prop :=
  s.head.silent = false ∧ (s.head.transfer = some .read ∨ s.head.transfer = some (.setUp s.ring.demand))

theorem asksPending.supplyAsked {s : State} (h : asksPending s) (hdemand : s.ring.demand = true) :
    s.head.supplyAsked false = { s.head with pendingWrite := some false } := by
  obtain ⟨hsilent, htransfer⟩ := h
  rw [hdemand] at htransfer
  obtain h | h := htransfer <;> simp [Head.supplyAsked, hsilent, h]

/-- The state after LEAK was accepted ACTIVE. -/
structure Leaked (s t : State) : Prop where
  set : (t.faults.entry .housingLeak).set = true
  locks : mayLight s.ring.state →
    t.ring.state = .lockedOff ∧ t.ring.codes = zeroCodes ∧ t.ring.demand = false ∧
    t.ring.causes = { s.ring.causes with leak := true } ∧
    t.head.pendingWrite = if s.ring.demand = true then some false else s.head.pendingWrite
  joins : s.ring.state = .lockedOff →
    t.ring = { s.ring with causes := { s.ring.causes with leak := true } } ∧ t.head.pendingWrite = s.head.pendingWrite
  off : s.ring.state = .off → t.ring = s.ring ∧ t.head.pendingWrite = s.head.pendingWrite
  acquisition : ∃ u, Quiet 1 s u ∧ AcquisitionFollows u t

theorem actKeeps_headLock {c : LockCause} {s : State} (hasks : asksPending s) : ActKeeps .leak s (headLock c s) := by
  obtain hoff | hlocked | hlights := ringState_cases s.ring.state
  · rw [headLock_off c hoff]
    exact .refl _ _
  · rw [headLock_lockedOff c hlocked]
    exact ⟨rfl, fun _ => rfl, rfl, fun h => absurd rfl h, fun _ _ => rfl, fun _ => rfl⟩
  · rw [(ringLocked_headLock c hlights).frame]
    cases hdemand : s.ring.demand
    · exact ⟨rfl, fun _ => rfl, rfl, fun h => absurd rfl h, fun _ _ => rfl, fun _ => rfl⟩
    · rw [if_neg (by decide), hasks.supplyAsked hdemand]
      exact ⟨rfl, fun j => by cases j <;> rfl, rfl, fun h => absurd rfl h, fun _ _ => rfl, fun _ => rfl⟩

theorem actKeeps_leak {s : State} (hasks : asksPending s) : ActKeeps .leak s (actOnAccepted .leak true s) := by
  have asks : asksPending (raise .housingLeak s) := by
    rw [asksPending, raise_ring, raise_head]
    exact hasks
  exact (actKeeps_raise .leak s).trans (actKeeps_headLock asks)

theorem leaked_act {s : State} (hentries : s.faults.entries.length = 12) (hasks : asksPending s) :
    Leaked s (actOnAccepted .leak true s) := by
  have hring : (raise .housingLeak s).ring = s.ring := raise_ring ..
  have hhead : (raise .housingLeak s).head = s.head := raise_head ..
  have hlock : actOnAccepted .leak true s = headLock .leak (raise .housingLeak s) := rfl
  have faults : (headLock .leak (raise .housingLeak s)).faults = (raise .housingLeak s).faults := by
    obtain ⟨r, u, c, t, h, effect⟩ := headLock_effect .leak (raise .housingLeak s)
    rw [effect]
  have locked (h : mayLight s.ring.state) := ringLocked_headLock (s := raise .housingLeak s) .leak (hring ▸ h)
  rw [hlock]
  refine ⟨?set, fun h => ?locks, fun h => ?joins, fun h => ?off,
    _, quiet_raise .housingLeak s, ?follows⟩
  case set => rw [faults, set_raise hentries]
  case locks =>
    rw [(locked h).frame, hring, hhead]
    refine ⟨rfl, rfl, rfl, rfl, ?_⟩
    cases hdemand : s.ring.demand
    · rfl
    · rw [if_neg (by decide), hasks.supplyAsked hdemand]
      rfl
  case joins =>
    rw [headLock_lockedOff .leak (hring ▸ h), hring, hhead]
    exact ⟨rfl, rfl⟩
  case off =>
    rw [headLock_off .leak (hring ▸ h), hring, hhead]
    exact ⟨rfl, rfl⟩
  case follows =>
    obtain hoff | hlocked | hlights := ringState_cases s.ring.state
    · rw [headLock_off .leak (hring ▸ hoff)]
      exact follows_refl _
    · rw [headLock_lockedOff .leak (hring ▸ hlocked)]
      exact ⟨fun _ _ _ h => absurd rfl h, fun _ => ⟨rfl, rfl, rfl⟩⟩
    · exact (locked hlights).acquisition

/-! ### WARM and HOT accepted (R120, R154 (2)) -/

/-- The band of the accepted values, one of which is known. -/
def bandOf (h : Head) : Band := if h.hot.accepted = .active then .hot else if h.warm.accepted = .active then .warm else .normal

theorem currentBand_eq {h : Head} (hknown : h.warm.accepted ≠ .unknown ∨ h.hot.accepted ≠ .unknown) :
    h.currentBand = some (bandOf h) := by
  unfold Head.currentBand bandOf
  split_ifs <;> simp_all

/-- From `s` to `t` nothing of the band has changed. -/
def bandKept (s t : State) : Prop := bandView t = bandView s ∧ t.ring.codes = s.ring.codes

/-- From `s` to `t` the ring was told a band, the one last reported, under which the budget step settles the codes in LIT. -/
structure BandTold (s t : State) : Prop where
  band : t.head.band = some t.ring.band
  reported : t.ring.bandReported = true
  hot : t.ring.band = .hot → (t.faults.entry .headHot).set = true
  codes : t.ring.codes =
    if s.ring.state = .lit then { s.ring with band := t.ring.band }.budgetStep s.ring.codes else s.ring.codes

/-- The state after the band was formed anew. -/
structure BandReported (s t : State) : Prop where
  quiet : Quiet 1 s t
  current : ∀ b, s.head.currentBand = some b → t.head.band = some b
  told : bandKept s t ∨ BandTold s t

/-- The ring is told the band `b`, which is the one last reported from then on. -/
def banded (b : Band) (s : State) : State := bandReport b { s with head.band := some b }

theorem reportBand_cases (s : State) :
    (reportBand s = s ∧ ∀ b, s.head.currentBand = some b → s.head.band = some b) ∨
    ∃ b, s.head.currentBand = some b ∧
      (b ≠ .hot ∧ reportBand s = banded b s ∨ b = .hot ∧ reportBand s = raise .headHot (banded b s)) := by
  unfold reportBand
  split
  case h_1 hnone => exact .inl ⟨rfl, fun b hb => by simp [hnone] at hb⟩
  case h_2 b hb =>
    split
    case isTrue hsame => exact .inl ⟨rfl, fun c hc => by rw [hsame, ← hb, hc]⟩
    case isFalse hnew =>
      refine .inr ⟨b, hb, ?_⟩
      split
      case isTrue hhot => exact .inr ⟨hhot, rfl⟩
      case isFalse hcool => exact .inl ⟨hcool, rfl⟩

theorem quiet_banded (b : Band) (s : State) : Quiet 0 s (banded b s) := ⟨rfl, rfl, rfl, .refl _⟩

theorem actKeeps_banded {i : HeadInput} (hi : i = .warm ∨ i = .hot) (b : Band) (s : State) : ActKeeps i s (banded b s) := by
  refine ⟨rfl, fun j => by cases j <;> rfl, rfl, fun _ => rfl, fun hw hh => ?_, fun _ => rfl⟩
  exact absurd hi (not_or.mpr ⟨hw, hh⟩)

theorem actKeeps_reportBand {i : HeadInput} (hi : i = .warm ∨ i = .hot) (s : State) : ActKeeps i s (reportBand s) := by
  obtain ⟨h, -⟩ | ⟨b, -, ⟨-, h⟩ | ⟨-, h⟩⟩ := reportBand_cases s <;> rw [h]
  · exact .refl _ _
  · exact actKeeps_banded hi b s
  · have raised : raisedBy i = .headHot := by obtain rfl | rfl := hi <;> rfl
    exact (actKeeps_banded hi b s).trans (raised ▸ actKeeps_raise i _)

theorem bandReported_reportBand {s : State} (hentries : s.faults.entries.length = 12) : BandReported s (reportBand s) := by
  obtain ⟨h, hcurrent⟩ | ⟨b, hb, ⟨hcool, h⟩ | ⟨rfl, h⟩⟩ := reportBand_cases s <;> rw [h]
  · exact ⟨(Quiet.refl s).mono (by decide), hcurrent, .inl ⟨rfl, rfl⟩⟩
  · exact ⟨(quiet_banded b s).mono (by decide), fun c hc => hb.symm.trans hc,
      .inr ⟨rfl, rfl, fun hhot => absurd hhot hcool, rfl⟩⟩
  · have hring := raise_ring .headHot (banded .hot s)
    have hhead := raise_head .headHot (banded .hot s)
    refine ⟨(quiet_banded .hot s).trans (quiet_raise ..), fun c hc => ?_, .inr ⟨?_, ?_, fun _ => set_raise hentries, ?_⟩⟩
    · exact hhead ▸ hb.symm.trans hc
    · rw [hring, hhead]; rfl
    · rw [hring]; rfl
    · rw [hring]; rfl

/-! ### RING_PRESENT accepted (R118, R127, R154 (3)) -/

/-- The ring's presence copy is written. -/
def noted (present : Bool) (s : State) : State := { s with ring.presence := present, ring.presenceReported := true }

/-- From `s` to `t` the ring was told whether it is present. -/
structure PresenceTold (present : Bool) (s t : State) : Prop where
  keeps : ActKeeps .present s t
  follows : AcquisitionFollows s t
  presence : t.ring.presence = present
  reported : t.ring.presenceReported = true
  absent : present = false → s.ring.state = .lit ∨ s.ring.state = .dim → t.ring.state = .absent ∧ t.ring.codes = zeroCodes
  lit : present = true → s.ring.state = .absent → s.ring.trip = .none →
    t.ring.state = .lit ∧ t.ring.codes = t.ring.budgetStep s.ring.startCodes
  dim : present = true → s.ring.state = .absent → s.ring.trip = .one → t.ring.state = .dim ∧ t.ring.codes = s.ring.dimCodes
  stays : s.ring.state = .off ∨ s.ring.state = .lockedOff → t.ring.state = s.ring.state ∧ t.ring.codes = s.ring.codes

theorem actKeeps_setRingState (x : RingState) (s : State) : ActKeeps .present s (setRingState x s) := by
  obtain ⟨a, -, -, -, -, h⟩ | ⟨-, u, h⟩ := setRingState_cases x s <;> rw [h] <;>
    exact ⟨rfl, fun _ => rfl, rfl, fun _ => rfl, fun _ _ => rfl, fun h => absurd rfl h⟩

theorem setRingState_ring (x : RingState) (s : State) :
    (setRingState x s).ring = { s.ring with state := x, flatHold := (setRingState x s).ring.flatHold } := by
  obtain ⟨a, -, -, -, -, h⟩ | ⟨-, u, h⟩ := setRingState_cases x s <;> rw [h]

theorem actKeeps_codes (i : HeadInput) (d : List Nat) (s : State) : ActKeeps i s { s with ring.codes := d } :=
  ⟨rfl, fun _ => rfl, rfl, fun _ => rfl, fun _ _ => rfl, fun _ => rfl⟩

theorem actKeeps_noted (present : Bool) (s : State) : ActKeeps .present s (noted present s) :=
  ⟨rfl, fun _ => rfl, rfl, fun _ => rfl, fun _ _ => rfl, fun h => absurd rfl h⟩

/-- A presence report in its cases: the ring becomes ABSENT, LIT or DIM, or keeps its state. -/
theorem presenceReport_cases (present : Bool) (s : State) :
    (present = false ∧ (s.ring.state = .lit ∨ s.ring.state = .dim) ∧
      presenceReport present s = setRingState .absent { noted present s with ring.codes := zeroCodes }) ∨
    (present = true ∧ s.ring.state = .absent ∧ s.ring.trip = .none ∧
      presenceReport present s = lightRing (noted present s)) ∨
    (present = true ∧ s.ring.state = .absent ∧ s.ring.trip = .one ∧
      presenceReport present s = setRingState .dim { noted present s with ring.codes := s.ring.dimCodes }) ∨
    ((present = false → s.ring.state ≠ .lit ∧ s.ring.state ≠ .dim) ∧
      (present = true → s.ring.state = .absent → s.ring.trip = .two) ∧ presenceReport present s = noted present s) := by
  unfold presenceReport
  dsimp only
  split
  case h_1 h => exact .inl ⟨rfl, .inl h, rfl⟩
  case h_2 h => exact .inl ⟨rfl, .inr h, rfl⟩
  case h_3 h htrip => exact .inr (.inl ⟨rfl, h, htrip, rfl⟩)
  case h_4 h htrip => exact .inr (.inr (.inl ⟨rfl, h, htrip, rfl⟩))
  case h_5 hlit hdim hnone hone =>
    refine .inr (.inr (.inr ⟨fun hp => ⟨hlit hp, hdim hp⟩, fun hp h => ?_, rfl⟩))
    cases htrip : s.ring.trip
    · exact (hnone hp h htrip).elim
    · exact (hone hp h htrip).elim
    · rfl

theorem lightRing_ring (s : State) :
    (lightRing s).ring =
      { s.ring with
        state := .lit, codes := s.ring.budgetStep s.ring.startCodes, flatHold := (setRingState .lit s).ring.flatHold } := by
  have hring := setRingState_ring .lit s
  rw [lightRing, settleCodes]
  dsimp only
  rw [hring, if_pos rfl]
  rfl

/-- The budget step reads of the ring only its channels, its budget and its band. -/
theorem budgetStep_congr {r r' : Ring} (hchannels : r.channels = r'.channels) (hbudget : r.budget = r'.budget)
    (hband : r.band = r'.band) (d : List Nat) : r.budgetStep d = r'.budgetStep d := by
  cases r
  cases r'
  subst hchannels hbudget hband
  rfl

theorem presenceTold_presenceReport (present : Bool) (s : State) : PresenceTold present s (presenceReport present s) := by
  have keeps := actKeeps_noted present s
  obtain ⟨rfl, hstate, h⟩ | ⟨rfl, hstate, htrip, h⟩ | ⟨rfl, hstate, htrip, h⟩ | ⟨hlit, htwo, h⟩ :=
    presenceReport_cases present s <;> rw [h]
  · have follows := acquisitionFollows_setRingState .absent { noted false s with ring.codes := zeroCodes }
    exact
      { keeps := keeps.trans ((actKeeps_codes ..).trans (actKeeps_setRingState ..))
        follows := ⟨follows.ended, follows.kept⟩
        presence := by rw [setRingState_ring]; rfl
        reported := by rw [setRingState_ring]; rfl
        absent := fun _ _ => by rw [setRingState_ring]; exact ⟨rfl, rfl⟩
        lit := nofun
        dim := nofun
        stays := by rintro (h | h) <;> simp [h] at hstate }
  · have follows := acquisitionFollows_setRingState .lit (noted true s)
    exact
      { keeps := keeps.trans ((actKeeps_setRingState ..).trans (actKeeps_codes ..))
        follows := ⟨follows.ended, follows.kept⟩
        presence := by rw [lightRing_ring]; rfl
        reported := by rw [lightRing_ring]; rfl
        absent := nofun
        lit := fun _ _ _ => by rw [lightRing_ring]; exact ⟨rfl, budgetStep_congr rfl rfl rfl _⟩
        dim := fun _ _ hone => by simp [htrip] at hone
        stays := by rintro (h | h) <;> simp [h] at hstate }
  · have follows := acquisitionFollows_setRingState .dim { noted true s with ring.codes := s.ring.dimCodes }
    exact
      { keeps := keeps.trans ((actKeeps_codes ..).trans (actKeeps_setRingState ..))
        follows := ⟨follows.ended, follows.kept⟩
        presence := by rw [setRingState_ring]; rfl
        reported := by rw [setRingState_ring]; rfl
        absent := nofun
        lit := fun _ _ hnone => by simp [htrip] at hnone
        dim := fun _ _ _ => by rw [setRingState_ring]; exact ⟨rfl, rfl⟩
        stays := by rintro (h | h) <;> simp [h] at hstate }
  · exact
      { keeps := keeps
        follows := ⟨fun _ _ _ h => absurd rfl h, fun _ => ⟨rfl, rfl, rfl⟩⟩
        presence := rfl
        reported := rfl
        absent := fun hp h => absurd h (not_or.mpr (hlit hp))
        lit := fun hp h hnone => by simp [htwo hp h] at hnone
        dim := fun hp h hone => by simp [htwo hp h] at hone
        stays := fun _ => ⟨rfl, rfl⟩ }

/-! ### One input meets a read (R153) -/

section
variable (i : HeadInput) (l : InputLine) (s : State)

@[simp] theorem untouched_withLine : untouched (withLine i l s) = untouched s := by cases i <;> rfl
@[simp] theorem leakView_withLine : leakView (withLine i l s) = leakView s := by cases i <;> rfl
@[simp] theorem bandView_withLine : bandView (withLine i l s) = bandView s := by cases i <;> rfl
@[simp] theorem presenceView_withLine : presenceView (withLine i l s) = presenceView s := by cases i <;> rfl
@[simp] theorem line_withLine (j : HeadInput) :
    (withLine i l s).head.line j = if j = i then l else s.head.line j := line_setLine s.head i j l

theorem quiet_withLine : Quiet 0 s (withLine i l s) := ⟨rfl, rfl, rfl, .refl _⟩

end

section
variable {i : HeadInput} {v : Bool} {start : Nat} {s : State}

theorem actKeeps_act (hasks : i = .leak → asksPending s) : ActKeeps i s (actOnAccepted i v s) := by
  match i, v with
  | .leak, true => exact actKeeps_leak (hasks rfl)
  | .leak, false => exact .refl _ _
  | .warm, _ => exact actKeeps_reportBand (.inl rfl) s
  | .hot, _ => exact actKeeps_reportBand (.inr rfl) s
  | .present, true => exact (presenceTold_presenceReport true s).keeps
  | .present, false => exact (presenceTold_presenceReport false s).keeps.trans (actKeeps_raise .present _)

theorem actKeeps_meetInput (hasks : i = .leak → asksPending s) :
    ActKeeps i (withLine i (met v start (s.head.line i)) s) (meetInput i v start s) := by
  rw [meetInput_eq]
  split
  · exact .refl _ _
  · exact actKeeps_act fun hi => by subst hi; exact hasks rfl

theorem line_meetInput_self (hasks : i = .leak → asksPending s) :
    (meetInput i v start s).head.line i = met v start (s.head.line i) := by
  rw [(actKeeps_meetInput hasks).line, line_withLine, if_pos rfl]

theorem line_meetInput_other {j : HeadInput} (hj : j ≠ i) (hasks : i = .leak → asksPending s) :
    (meetInput i v start s).head.line j = s.head.line j := by
  rw [(actKeeps_meetInput hasks).line, line_withLine, if_neg hj]

end

/-- The accepted value of input `i` is another one. -/
def changes (i : HeadInput) (s t : State) : Prop := (t.head.line i).accepted ≠ (s.head.line i).accepted

/-- One input meets its value: its accepted value stays and only its line is new, or it changes to the value read and is acted
on. -/
theorem meetInput_cases (i : HeadInput) (v : Bool) (start : Nat) (s : State) (hasks : i = .leak → asksPending s) :
    (¬ changes i s (meetInput i v start s) ∧ meetInput i v start s = withLine i (met v start (s.head.line i)) s) ∨
    (changes i s (meetInput i v start s) ∧ ((meetInput i v start s).head.line i).accepted = .ofRead v ∧
      meetInput i v start s = actOnAccepted i v (withLine i (met v start (s.head.line i)) s)) := by
  rw [changes, line_meetInput_self hasks, meetInput_eq]
  split
  · exact .inl ⟨not_not_intro ‹_›, rfl⟩
  · exact .inr ⟨‹_›, accepted_met ‹_›, rfl⟩

theorem ofRead_ne_unknown (v : Bool) : Accepted.ofRead v ≠ .unknown := by cases v <;> decide

/-- LEAK was accepted ACTIVE. -/
abbrev leaks (s t : State) : Prop := s.head.leak.accepted ≠ .active ∧ t.head.leak.accepted = .active

theorem meetInput_leak {v : Bool} {start : Nat} {s : State} (hentries : s.faults.entries.length = 12) (hasks : asksPending s) :
    let t := meetInput .leak v start s
    (leaks s t ∧ Leaked s t) ∨ (¬ leaks s t ∧ t = withLine .leak (met v start s.head.leak) s) := by
  intro t
  obtain ⟨hsame, h⟩ | ⟨hchanges, hread, h⟩ := meetInput_cases .leak v start s fun _ => hasks
  · exact .inr ⟨fun hleaks => hsame fun heq => hleaks.1 (heq ▸ hleaks.2), h⟩
  · cases v
    · exact .inr ⟨fun hleaks => by simpa [Accepted.ofRead] using hread.symm.trans hleaks.2, h⟩
    · have leaked := leaked_act (s := withLine .leak (met true start (s.head.line .leak)) s) hentries hasks
      rw [← h] at leaked
      obtain ⟨u, quiet, follows⟩ := leaked.acquisition
      exact .inl ⟨⟨fun heq => hchanges (hread.trans heq.symm), hread⟩, leaked.set, leaked.locks, leaked.joins, leaked.off, u,
        (quiet_withLine ..).trans quiet, follows⟩

/-- From `s` to `t` WARM or HOT, input `i`, has met its value. -/
structure BandMet (i : HeadInput) (s t : State) : Prop where
  quiet : Quiet 1 s t
  told : bandKept s t ∨ BandTold s t
  stays : ¬ changes i s t → bandKept s t
  current : changes i s t → t.head.band = some (bandOf t.head)

theorem bandMet_meetInput {i : HeadInput} (hi : i = .warm ∨ i = .hot) {v : Bool} {start : Nat} {s : State}
    (hentries : s.faults.entries.length = 12) : BandMet i s (meetInput i v start s) := by
  have hleak : i = .leak → asksPending s := by obtain rfl | rfl := hi <;> nofun
  obtain ⟨hsame, h⟩ | ⟨hchanges, hread, h⟩ := meetInput_cases i v start s hleak
  · have kept : bandKept s (meetInput i v start s) := h ▸ ⟨bandView_withLine .., rfl⟩
    exact ⟨h ▸ (quiet_withLine ..).mono (by decide), .inl kept, fun _ => kept, fun hc => absurd hc hsame⟩
  · generalize hu : withLine i (met v start (s.head.line i)) s = u at h
    have hact : meetInput i v start s = reportBand u := by
      rw [h]
      obtain rfl | rfl := hi <;> rfl
    have reported : BandReported u (reportBand u) := bandReported_reportBand (hu ▸ hentries)
    have lines : ∀ j, (reportBand u).head.line j = u.head.line j := (actKeeps_reportBand hi u).line
    rw [hact] at hchanges hread ⊢
    have known : u.head.warm.accepted ≠ .unknown ∨ u.head.hot.accepted ≠ .unknown := by
      rw [lines] at hread
      obtain rfl | rfl := hi
      · exact .inl (hread ▸ ofRead_ne_unknown v)
      · exact .inr (hread ▸ ofRead_ne_unknown v)
    have band : bandOf (reportBand u).head = bandOf u.head := by
      rw [bandOf, show (reportBand u).head.hot = u.head.hot from lines .hot,
        show (reportBand u).head.warm = u.head.warm from lines .warm, bandOf]
    subst hu
    refine ⟨(quiet_withLine ..).trans reported.quiet, ?told, fun hsame => absurd hchanges hsame, fun _ => ?current⟩
    case current => rw [band, reported.current _ (currentBand_eq known)]
    case told =>
      obtain ⟨hview, hcodes⟩ | told := reported.told
      · exact .inl ⟨hview.trans (bandView_withLine ..), hcodes⟩
      · exact .inr ⟨told.band, told.reported, told.hot, told.codes⟩

/-- From `s` to `t` RING_PRESENT has met its value. -/
structure PresenceMet (s t : State) : Prop where
  stays : ¬ changes .present s t → t.ring = s.ring ∧ presenceView t = presenceView s
  told : changes .present s t →
    t.ring.presence = decide (t.head.present.accepted = .active) ∧ t.ring.presenceReported = true ∧
    (t.head.present.accepted = .inactive → (t.faults.entry .ringAbsent).set = true)
  absent : changes .present s t → t.head.present.accepted = .inactive → s.ring.state = .lit ∨ s.ring.state = .dim →
    t.ring.state = .absent ∧ t.ring.codes = zeroCodes
  lit : changes .present s t → t.head.present.accepted = .active → s.ring.state = .absent → s.ring.trip = .none →
    t.ring.state = .lit ∧ t.ring.codes = t.ring.budgetStep s.ring.startCodes
  dim : changes .present s t → t.head.present.accepted = .active → s.ring.state = .absent → s.ring.trip = .one →
    t.ring.state = .dim ∧ t.ring.codes = s.ring.dimCodes
  dark : s.ring.state = .off ∨ s.ring.state = .lockedOff → t.ring.state = s.ring.state ∧ t.ring.codes = s.ring.codes
  acquisition : ∃ p, AcquisitionFollows s p ∧ Quiet 1 p t

theorem presenceMet_meetInput {v : Bool} {start : Nat} {s : State} (hentries : s.faults.entries.length = 12) :
    PresenceMet s (meetInput .present v start s) := by
  obtain ⟨hsame, h⟩ | ⟨hchanges, hread, h⟩ := meetInput_cases .present v start s nofun
  · have ring : (meetInput .present v start s).ring = s.ring := by rw [h]; rfl
    have view : presenceView (meetInput .present v start s) = presenceView s := by rw [h, presenceView_withLine]
    refine ⟨fun _ => ⟨ring, view⟩, fun hc => absurd hc hsame, fun hc => absurd hc hsame, fun hc => absurd hc hsame,
      fun hc => absurd hc hsame, fun _ => by rw [ring]; exact ⟨rfl, rfl⟩, s, follows_refl s, ?_⟩
    rw [h]
    exact (quiet_withLine ..).mono (by decide)
  · generalize hu : withLine .present (met v start (s.head.line .present)) s = u at h
    have told := presenceTold_presenceReport v u
    have acted : (meetInput .present v start s).ring = (presenceReport v u).ring ∧
        (v = false → ((meetInput .present v start s).faults.entry .ringAbsent).set = true) ∧
        Quiet 1 (presenceReport v u) (meetInput .present v start s) := by
      rw [h]
      cases v
      · refine ⟨raise_ring .., fun _ => set_raise ?_, quiet_raise ..⟩
        rw [told.keeps.entries, ← hu]
        exact hentries
      · exact ⟨rfl, nofun, (Quiet.refl _).mono (by decide)⟩
    obtain ⟨hring, hset, quiet⟩ := acted
    have active : (meetInput .present v start s).head.present.accepted = .active ↔ v = true := by
      rw [show (meetInput .present v start s).head.present.accepted = .ofRead v from hread]
      cases v <;> simp [Accepted.ofRead]
    have inactive : (meetInput .present v start s).head.present.accepted = .inactive ↔ v = false := by
      rw [show (meetInput .present v start s).head.present.accepted = .ofRead v from hread]
      cases v <;> simp [Accepted.ofRead]
    subst hu
    exact
      { stays := fun hc => absurd hchanges hc
        told := fun _ => ⟨by simp [hring, told.presence, active], hring ▸ told.reported, fun h => hset (inactive.mp h)⟩
        absent := fun _ h hs => hring ▸ told.absent (inactive.mp h) hs
        lit := fun _ h hs htrip => hring ▸ told.lit (active.mp h) hs htrip
        dim := fun _ h hs htrip => hring ▸ told.dim (active.mp h) hs htrip
        dark := fun hs => hring ▸ told.stays hs
        acquisition := ⟨_, ⟨told.follows.ended, told.follows.kept⟩, quiet⟩ }

/-! ### The four inputs meet a read, in order of line number (R153) -/

/-- What a band report leaves: the band last reported is the ring's, and HOT has raised HEAD_HOT. -/
def toldView (x : Option Band × Band × Bool × FaultEntry) : Prop :=
  x.1 = some x.2.1 ∧ x.2.2.1 = true ∧ (x.2.1 = .hot → x.2.2.2.set = true)

theorem BandTold.view {s t : State} (h : BandTold s t) : toldView (bandView t) := ⟨h.band, h.reported, h.hot⟩

theorem BandMet.codes_of_not_lit {i : HeadInput} {s t : State} (h : BandMet i s t) (hs : s.ring.state ≠ .lit) :
    t.ring.codes = s.ring.codes := by
  obtain ⟨-, hcodes⟩ | told := h.told
  · exact hcodes
  · rw [told.codes, if_neg hs]

/-- The budget step of a state that differs only in what an input may change. -/
theorem budgetStep_of_untouched {s u : State} (hu : untouched u = untouched s) (x : Band) (d : List Nat) :
    { u.ring with band := x }.budgetStep d = { s.ring with band := x }.budgetStep d := by
  have channels : (untouched u).ring.channels = (untouched s).ring.channels := by rw [hu]
  have budget : (untouched u).ring.budget = (untouched s).ring.budget := by rw [hu]
  exact budgetStep_congr (r := { u.ring with band := x }) (r' := { s.ring with band := x }) channels budget rfl d

/-- The states through which a read takes `s` to `t`: `a` after LEAK, `b` after WARM, `c` after HOT. -/
structure Stages (s a b c t : State) : Prop where
  leak : (leaks s t ∧ Leaked s a) ∨
    (¬ leaks s t ∧ a.ring = s.ring ∧ a.head.pendingWrite = s.head.pendingWrite ∧ Quiet 1 s a)
  warm : BandMet .warm a b
  hot : BandMet .hot b c
  present : PresenceMet c t
  warmChanges : changes .warm a b ↔ changes .warm s t
  hotChanges : changes .hot b c ↔ changes .hot s t
  presentChanges : changes .present c t ↔ changes .present s t
  warmLine : b.head.warm = t.head.warm ∧ c.head.warm = t.head.warm
  hotLine : b.head.hot = s.head.hot ∧ c.head.hot = t.head.hot
  leakView : leakView t = leakView a
  bandView : bandView a = bandView s ∧ bandView t = bandView c
  presenceView : presenceView c = presenceView s
  untouched : untouched b = untouched s ∧ untouched c = untouched s ∧ untouched t = untouched s

section
variable {values : InputValues} {start : Nat} {s : State}

/-- Each line meets its own value alone. -/
theorem line_meetInputs (hasks : asksPending s) (i : HeadInput) :
    (meetInputs values start s).head.line i = met (readValue values i) start (s.head.line i) := by
  let a := meetInput .leak values.leak start s
  let b := meetInput .warm values.warm start a
  let c := meetInput .hot values.hot start b
  have la (j) (hj : j ≠ .leak) : a.head.line j = s.head.line j := line_meetInput_other hj fun _ => hasks
  have lb (j) (hj : j ≠ .warm) : b.head.line j = a.head.line j := line_meetInput_other hj nofun
  have lc (j) (hj : j ≠ .hot) : c.head.line j = b.head.line j := line_meetInput_other hj nofun
  have lt (j) (hj : j ≠ .present) : (meetInputs values start s).head.line j = c.head.line j := line_meetInput_other hj nofun
  match i with
  | .leak =>
    have self : a.head.line .leak = _ := line_meetInput_self fun _ => hasks
    rw [lt .leak nofun, lc .leak nofun, lb .leak nofun, self, readValue]
  | .warm =>
    have self : b.head.line .warm = _ := line_meetInput_self nofun
    rw [lt .warm nofun, lc .warm nofun, self, la .warm nofun, readValue]
  | .hot =>
    have self : c.head.line .hot = _ := line_meetInput_self nofun
    rw [lt .hot nofun, self, lb .hot nofun, la .hot nofun, readValue]
  | .present =>
    have self : (meetInputs values start s).head.line .present = _ := line_meetInput_self nofun
    rw [self, lc .present nofun, lb .present nofun, la .present nofun, readValue]

theorem stages_meetInputs (hentries : s.faults.entries.length = 12) (hasks : asksPending s) :
    ∃ a b c, Stages s a b c (meetInputs values start s) := by
  let a := meetInput .leak values.leak start s
  let b := meetInput .warm values.warm start a
  let c := meetInput .hot values.hot start b
  let t := meetInput .present values.present start c
  have ka : ActKeeps .leak (withLine .leak _ s) a := actKeeps_meetInput fun _ => hasks
  have kb : ActKeeps .warm (withLine .warm _ a) b := actKeeps_meetInput nofun
  have kc : ActKeeps .hot (withLine .hot _ b) c := actKeeps_meetInput nofun
  have kt : ActKeeps .present (withLine .present _ c) t := actKeeps_meetInput nofun
  have la (j) (hj : j ≠ .leak) : a.head.line j = s.head.line j := line_meetInput_other hj fun _ => hasks
  have lb (j) (hj : j ≠ .warm) : b.head.line j = a.head.line j := line_meetInput_other hj nofun
  have lc (j) (hj : j ≠ .hot) : c.head.line j = b.head.line j := line_meetInput_other hj nofun
  have lt (j) (hj : j ≠ .present) : t.head.line j = c.head.line j := line_meetInput_other hj nofun
  have ea : a.faults.entries.length = 12 := ka.entries.trans hentries
  have eb : b.faults.entries.length = 12 := kb.entries.trans ea
  have ec : c.faults.entries.length = 12 := kc.entries.trans eb
  refine ⟨a, b, c, ?_⟩
  show Stages s a b c t
  have leakLine : t.head.leak = a.head.leak := (lt .leak nofun).trans ((lc .leak nofun).trans (lb .leak nofun))
  have ua : untouched a = untouched s := ka.untouched.trans (untouched_withLine ..)
  have ub : untouched b = untouched s := kb.untouched.trans ((untouched_withLine ..).trans ua)
  have uc : untouched c = untouched s := kc.untouched.trans ((untouched_withLine ..).trans ub)
  exact
    { leak := by
        rw [leaks, leakLine]
        obtain ⟨hleaks, leaked⟩ | ⟨hleaks, h⟩ := meetInput_leak (v := values.leak) (start := start) hentries hasks
        · exact .inl ⟨hleaks, leaked⟩
        · refine .inr ⟨hleaks, ?_⟩
          rw [show a = _ from h]
          exact ⟨rfl, rfl, (quiet_withLine ..).mono (by decide)⟩
      warm := bandMet_meetInput (.inl rfl) ea
      hot := bandMet_meetInput (.inr rfl) eb
      present := presenceMet_meetInput ec
      warmChanges := by rw [changes, changes, lt .warm nofun, lc .warm nofun, la .warm nofun]
      hotChanges := by rw [changes, changes, lt .hot nofun, lb .hot nofun, la .hot nofun]
      presentChanges := by rw [changes, changes, lc .present nofun, lb .present nofun, la .present nofun]
      warmLine := ⟨((lt .warm nofun).trans (lc .warm nofun)).symm, (lt .warm nofun).symm⟩
      hotLine := ⟨(lb .hot nofun).trans (la .hot nofun), (lt .hot nofun).symm⟩
      leakView := by
        rw [kt.leak nofun, leakView_withLine, kc.leak nofun, leakView_withLine, kb.leak nofun, leakView_withLine]
      bandView := ⟨(ka.band nofun nofun).trans (bandView_withLine ..), (kt.band nofun nofun).trans (bandView_withLine ..)⟩
      presenceView := by
        rw [kc.presence nofun, presenceView_withLine, kb.presence nofun, presenceView_withLine, ka.presence nofun,
          presenceView_withLine]
      untouched := ⟨ub, uc, kt.untouched.trans ((untouched_withLine ..).trans uc)⟩ }

end

section
variable {s a b c t : State} (h : Stages s a b c t)
include h

theorem Stages.state_eq : c.ring.state = a.ring.state := h.hot.quiet.state.trans h.warm.quiet.state

/-! #### The band -/

theorem Stages.band_kept (hw : ¬ changes .warm s t) (hh : ¬ changes .hot s t) :
    InputReads.bandView t = InputReads.bandView s ∧ c.ring.codes = a.ring.codes := by
  obtain ⟨hview, hcodes⟩ := h.warm.stays (mt h.warmChanges.mp hw)
  obtain ⟨hview', hcodes'⟩ := h.hot.stays (mt h.hotChanges.mp hh)
  exact ⟨h.bandView.2.trans (hview'.trans (hview.trans h.bandView.1)), hcodes'.trans hcodes⟩

theorem Stages.band_told : InputReads.bandView t = InputReads.bandView s ∨ toldView (InputReads.bandView t) := by
  rw [h.bandView.2, ← h.bandView.1]
  obtain ⟨hview, -⟩ | told := h.hot.told
  · rw [hview]
    obtain ⟨hview, -⟩ | told := h.warm.told
    · exact .inl hview
    · exact .inr told.view
  · exact .inr told.view

/-- The band last reported is that of the accepted values once one of them has changed: the last change reported it. -/
theorem Stages.band_current (hchanges : changes .warm s t ∨ changes .hot s t) : t.head.band = some (bandOf t.head) := by
  have headBand : t.head.band = c.head.band := congrArg Prod.fst h.bandView.2
  rw [headBand]
  by_cases hh : changes .hot b c
  · rw [h.hot.current hh, bandOf, bandOf, h.warmLine.2, h.hotLine.2]
  · have hw : changes .warm a b := h.warmChanges.mpr (hchanges.resolve_right (mt h.hotChanges.mpr hh))
    have same : c.head.hot.accepted = b.head.hot.accepted := not_ne_iff.mp hh
    have keptBand : c.head.band = b.head.band := congrArg Prod.fst (h.hot.stays hh).1
    rw [keptBand, h.warm.current hw, bandOf, bandOf, h.warmLine.1, ← same, h.hotLine.2]

/-- A changed band last reported is the ring's and that of the accepted values. -/
theorem Stages.band_changed (hband : t.head.band ≠ s.head.band) :
    t.ring.band = bandOf t.head ∧ t.ring.bandReported = true ∧
    (bandOf t.head = .hot → (t.faults.entry .headHot).set = true) := by
  have current : t.head.band = some (bandOf t.head) := by
    refine h.band_current (Classical.byContradiction fun hnone => hband ?_)
    obtain ⟨hw, hh⟩ := not_or.mp hnone
    exact congrArg Prod.fst (h.band_kept hw hh).1
  obtain hview | ⟨hring, hreported, hhot⟩ := h.band_told
  · exact absurd (congrArg Prod.fst hview) hband
  · have ring : t.ring.band = bandOf t.head := Option.some.inj (hring.symm.trans current)
    exact ⟨ring, hreported, fun hb => hhot (ring.trans hb)⟩

/-! #### The drive codes -/

/-- In LIT one band report settles the codes by the budget step. -/
theorem Stages.codes_settled (hlit : s.ring.state = .lit) (hleaks : ¬ leaks s t) (hband : t.head.band ≠ s.head.band)
    (hone : ¬ changes .warm s t ∨ ¬ changes .hot s t) :
    c.ring.codes = { s.ring with band := bandOf t.head }.budgetStep s.ring.codes := by
  obtain ⟨hleaks', -⟩ | ⟨-, ringA, -⟩ := h.leak
  · exact absurd hleaks' hleaks
  have litA : a.ring.state = .lit := by rw [ringA, hlit]
  have litB : b.ring.state = .lit := h.warm.quiet.state.trans litA
  have bandC : c.ring.band = bandOf t.head := by
    rw [← (h.band_changed hband).1]
    exact (congrArg (fun x => x.2.1) h.bandView.2).symm
  have changed : c.head.band ≠ a.head.band := by
    rw [← show t.head.band = c.head.band from congrArg Prod.fst h.bandView.2,
      show a.head.band = s.head.band from congrArg Prod.fst h.bandView.1]
    exact hband
  obtain hw | hh := hone
  · obtain ⟨viewB, codesB⟩ := h.warm.stays (mt h.warmChanges.mp hw)
    obtain ⟨viewC, -⟩ | told := h.hot.told
    · exact absurd (congrArg Prod.fst (viewC.trans viewB)) changed
    · rw [told.codes, if_pos litB, bandC, codesB, ringA, budgetStep_of_untouched h.untouched.1]
  · obtain ⟨viewC, codesC⟩ := h.hot.stays (mt h.hotChanges.mp hh)
    obtain ⟨viewB, -⟩ | told := h.warm.told
    · exact absurd (congrArg Prod.fst (viewC.trans viewB)) changed
    · have bandB : c.ring.band = b.ring.band := congrArg (fun x => x.2.1) viewC
      rw [codesC, told.codes, if_pos litA, ← bandB, bandC, ringA]

/-- From a dark state the other three inputs leave the ring dark. -/
theorem Stages.dark (hdark : a.ring.state = .off ∨ a.ring.state = .lockedOff) :
    t.ring.state = a.ring.state ∧ t.ring.codes = a.ring.codes := by
  have notLit : a.ring.state ≠ .lit := by obtain h | h := hdark <;> simp [h]
  obtain ⟨hstate, hcodes⟩ := h.present.dark (h.state_eq ▸ hdark)
  refine ⟨hstate.trans h.state_eq, hcodes.trans ?_⟩
  rw [h.hot.codes_of_not_lit (h.warm.quiet.state ▸ notLit), h.warm.codes_of_not_lit notLit]

/-! #### The acquisition -/

theorem Stages.changesOnce : InputReads.changesOnce s t := by
  obtain ⟨p, follows, after⟩ := h.present.acquisition
  have bands : Quiet 2 a c := h.warm.quiet.trans h.hot.quiet
  have quietly (quiet : Quiet 1 s a) : InputReads.changesOnce s t := ⟨c, p, 1, quiet.trans bands, follows, after⟩
  obtain ⟨-, leaked⟩ | ⟨-, -, -, quiet⟩ := h.leak
  case inr => exact quietly quiet
  case inl =>
    obtain ⟨u, quiet, locked⟩ := leaked.acquisition
    have unchanged (hring : a.ring.state = s.ring.state) : InputReads.changesOnce s t :=
      quietly (quiet.trans (quiet_of_follows locked (hring.trans quiet.state.symm)))
    obtain hoff | hlocked | hlights := ringState_cases s.ring.state
    · exact unchanged (by rw [(leaked.off hoff).1])
    · exact unchanged (by rw [(leaked.joins hlocked).1])
    · have dark := h.dark (.inr (leaked.locks hlights).1)
      have stateP : p.ring.state = c.ring.state := by rw [h.state_eq, ← dark.1, after.state]
      exact ⟨u, a, _, quiet.mono (by decide), locked, bands.trans ((quiet_of_follows follows stateP).trans after)⟩

end

/-! ### Around the inputs: recovery and the next transfer (R152, R156) -/

/-- The monitor as the next transfer starts, or with an idle master. -/
def nextTransfer (h : Head) : Head :=
  match h.pendingWrite with
  | some v => { h with transfer := some (.supplyWrite v), pendingWrite := none, retried := false }
  | none =>
    if h.pendingRead = true then { h with transfer := some .read, pendingRead := false, retried := false }
    else { h with transfer := none, retried := false }

theorem startNextTransfer_eq (s : State) : startNextTransfer s = { s with head := nextTransfer s.head } := by
  match hw : s.head.pendingWrite with
  | some v => simp only [startNextTransfer, nextTransfer, hw]
  | none =>
    simp only [startNextTransfer, nextTransfer, hw]
    split <;> rfl

theorem nextTransfer_frame (h : Head) :
    nextTransfer h = { h with
      transfer := (nextTransfer h).transfer, pendingWrite := none, pendingRead := (nextTransfer h).pendingRead
      retried := false } := by
  unfold nextTransfer
  split
  · rfl
  · rename_i hnone
    split <;> rw [← hnone]

/-- The state in which the inputs meet the read: a silence has ended. -/
def begun (s : State) : State := if s.head.silent = true then recover s else s

theorem begun_frame (s : State) :
    begun s = { s with head := { s.head with
      silent := false, transfer := (begun s).head.transfer, retried := (begun s).head.retried
      pendingRead := (begun s).head.pendingRead } } := by
  unfold begun
  split
  · rfl
  · rename_i hsilent
    rw [← Bool.eq_false_iff.mpr hsilent]

theorem asksPending_begun {s : State} (htransfer : s.head.transfer = some .read) : asksPending (begun s) := by
  unfold begun
  split
  · exact ⟨rfl, .inr rfl⟩
  · rename_i hsilent
    exact ⟨Bool.eq_false_iff.mpr hsilent, .inl htransfer⟩

theorem readEnds_eq (values : InputValues) (start : Nat) (s : State) :
    readEnds values start s =
      { meetInputs values start (begun s) with
        head := if s.head.silent = true then (meetInputs values start (begun s)).head
          else nextTransfer (meetInputs values start (begun s)).head } := by
  by_cases hsilent : s.head.silent = true
  · simp only [readEnds, begun, if_pos hsilent]
  · simp only [readEnds, begun, if_neg hsilent, startNextTransfer_eq]

/-! ### The outcome of a read, in the terms of the statement -/

section
variable {s a b c t : State} (h : Stages s a b c t)
include h

theorem Stages.pendingWrite :
    t.head.pendingWrite =
      if leaks s t ∧ s.ring.demand = true ∧ mayLight s.ring.state then some false else s.head.pendingWrite := by
  rw [show t.head.pendingWrite = a.head.pendingWrite from congrArg (fun x => x.2.2.1) h.leakView]
  obtain ⟨hleaks, leaked⟩ | ⟨hleaks, -, hwrite, -⟩ := h.leak
  · obtain hoff | hlocked | hlights := ringState_cases s.ring.state
    · rw [(leaked.off hoff).2, if_neg (by simp [hoff, mayLight])]
    · rw [(leaked.joins hlocked).2, if_neg (by simp [hlocked, mayLight])]
    · obtain ⟨-, -, -, -, hwrite⟩ := leaked.locks hlights
      rw [hwrite]
      exact if_congr ⟨fun hdemand => ⟨hleaks, hdemand, hlights⟩, fun hall => hall.2.1⟩ rfl rfl
  · rw [hwrite, if_neg (by simp [hleaks])]

/-- The outcome of a leak. -/
theorem Stages.leaked (hleaks : leaks s t) :
    (t.faults.entry .housingLeak).set = true ∧
    (mayLight s.ring.state →
      t.ring.state = .lockedOff ∧ t.ring.codes = zeroCodes ∧ t.ring.demand = false ∧
      t.ring.causes = { s.ring.causes with leak := true }) ∧
    (s.ring.state = .lockedOff →
      t.ring.state = .lockedOff ∧ t.ring.codes = s.ring.codes ∧ t.ring.demand = s.ring.demand ∧
      t.ring.causes = { s.ring.causes with leak := true }) ∧
    (s.ring.state = .off →
      t.ring.state = .off ∧ t.ring.codes = s.ring.codes ∧ t.ring.demand = s.ring.demand ∧
      t.ring.causes = s.ring.causes) := by
  obtain ⟨-, leaked⟩ | ⟨hnone, -⟩ := h.leak
  case inr => exact absurd hleaks hnone
  case inl =>
    have causes : t.ring.causes = a.ring.causes := congrArg (fun x => x.1) h.leakView
    have demand : t.ring.demand = a.ring.demand := congrArg (fun x => x.2.1) h.leakView
    have entry : t.faults.entry .housingLeak = a.faults.entry .housingLeak := congrArg (fun x => x.2.2.2) h.leakView
    rw [causes, demand, entry]
    refine ⟨leaked.set, fun hlights => ?_, fun hlocked => ?_, fun hoff => ?_⟩
    · obtain ⟨hstate, hcodes, hdemand, hcauses, -⟩ := leaked.locks hlights
      obtain ⟨state, codes⟩ := h.dark (.inr hstate)
      exact ⟨state.trans hstate, codes.trans hcodes, hdemand, hcauses⟩
    · have ring := (leaked.joins hlocked).1
      obtain ⟨state, codes⟩ := h.dark (.inr (by rw [ring, hlocked]))
      rw [state, codes, ring]
      exact ⟨hlocked, rfl, rfl, rfl⟩
    · have ring := (leaked.off hoff).1
      obtain ⟨state, codes⟩ := h.dark (.inl (by rw [ring, hoff]))
      rw [state, codes, ring]
      exact ⟨hoff, rfl, rfl, rfl⟩

/-- Without a leak the first stage leaves the ring. -/
theorem Stages.ring_of_not_leaks (hleaks : ¬ leaks s t) : a.ring = s.ring := by
  obtain ⟨hleaks', -⟩ | ⟨-, hring, -⟩ := h.leak
  · exact absurd hleaks' hleaks
  · exact hring

theorem Stages.lock_kept (hleaks : ¬ leaks s t) : t.ring.causes = s.ring.causes ∧ t.ring.demand = s.ring.demand := by
  have ring := h.ring_of_not_leaks hleaks
  exact ⟨ring ▸ congrArg (fun x => x.1) h.leakView, ring ▸ congrArg (fun x => x.2.1) h.leakView⟩

/-- In LIT without a leak and a change of presence the ring stays LIT, and only a band report settles its codes. -/
theorem Stages.lit_kept (hlit : s.ring.state = .lit) (hleaks : ¬ leaks s t) (hpresent : ¬ changes .present s t) :
    t.ring.state = .lit ∧
    (¬ changes .warm s t → ¬ changes .hot s t → t.ring.codes = s.ring.codes) ∧
    (t.head.band ≠ s.head.band → ¬ changes .warm s t ∨ ¬ changes .hot s t →
      t.ring.codes = { s.ring with band := bandOf t.head }.budgetStep s.ring.codes) := by
  have ringA := h.ring_of_not_leaks hleaks
  obtain ⟨ringT, -⟩ := h.present.stays (mt h.presentChanges.mp hpresent)
  rw [ringT, h.state_eq]
  refine ⟨by rw [ringA, hlit], fun hw hh => ?_, fun hband hone => h.codes_settled hlit hleaks hband hone⟩
  rw [(h.band_kept hw hh).2, ringA]

/-- RING_PRESENT changed. -/
theorem Stages.presence_told (hpresent : changes .present s t) :
    t.ring.presence = decide (t.head.present.accepted = .active) ∧ t.ring.presenceReported = true ∧
    (t.head.present.accepted = .inactive → (t.faults.entry .ringAbsent).set = true) :=
  h.present.told (h.presentChanges.mpr hpresent)

/-- RING_PRESENT changed without a leak: the ring becomes ABSENT, LIT or DIM, or stays dark. -/
theorem Stages.presence_followed (hpresent : changes .present s t) (hleaks : ¬ leaks s t) :
    (t.head.present.accepted = .inactive → s.ring.state = .lit ∨ s.ring.state = .dim →
      t.ring.state = .absent ∧ t.ring.codes = zeroCodes) ∧
    (t.head.present.accepted = .active → s.ring.state = .absent → s.ring.trip = .none →
      t.ring.state = .lit ∧ t.ring.codes = t.ring.budgetStep s.ring.startCodes) ∧
    (t.head.present.accepted = .active → s.ring.state = .absent → s.ring.trip = .one →
      t.ring.state = .dim ∧ t.ring.codes = s.ring.dimCodes) ∧
    (s.ring.state = .off ∨ s.ring.state = .lockedOff → t.ring.state = s.ring.state ∧ t.ring.codes = s.ring.codes) := by
  have ringA := h.ring_of_not_leaks hleaks
  have stateC : c.ring.state = s.ring.state := h.state_eq.trans (by rw [ringA])
  have tripC : c.ring.trip = s.ring.trip := by
    have trip : (InputReads.untouched c).ring.trip = (InputReads.untouched s).ring.trip := by rw [h.untouched.2.1]
    exact trip
  have channelsC : c.ring.channels = s.ring.channels := by
    have channels : (InputReads.untouched c).ring.channels = (InputReads.untouched s).ring.channels := by rw [h.untouched.2.1]
    exact channels
  have changed := h.presentChanges.mpr hpresent
  refine ⟨fun hi hs => h.present.absent changed hi (stateC ▸ hs), fun ha hs htrip => ?lit, fun ha hs htrip => ?dim,
    fun hs => ?dark⟩
  case lit =>
    rw [Ring.startCodes, ← channelsC]
    exact h.present.lit changed ha (stateC.trans hs) (tripC.trans htrip)
  case dim =>
    rw [Ring.dimCodes, ← channelsC]
    exact h.present.dim changed ha (stateC.trans hs) (tripC.trans htrip)
  case dark =>
    rw [← ringA] at hs ⊢
    exact h.dark hs

end

theorem endsFlat_iff (x : RingState) : x.endsFlat = true ↔ x = .dim ∨ x = .lockedOff ∨ x = .absent := by
  cases x <;> simp [RingState.endsFlat]

theorem not_changes_iff {i : HeadInput} {s t : State} :
    ¬ changes i s t ↔ (s.head.line i).accepted = (t.head.line i).accepted := not_ne_iff.trans eq_comm

/-- The next transfer of a SPEAKING monitor: a pending write before a pending read. -/
theorem nextTransfer_transfer (h : Head) :
    (nextTransfer h).pendingWrite = none ∧
    (∀ v, h.pendingWrite = some v →
      (nextTransfer h).transfer = some (.supplyWrite v) ∧ (nextTransfer h).pendingRead = h.pendingRead) ∧
    (h.pendingWrite = none → (nextTransfer h).pendingRead = false ∧
      (nextTransfer h).transfer = if h.pendingRead = true then some .read else none) := by
  match hwrite : h.pendingWrite with
  | some v =>
    simp only [nextTransfer, hwrite]
    exact ⟨trivial, fun w hw => ⟨by rw [Option.some.inj hw], trivial⟩, nofun⟩
  | none =>
    cases hread : h.pendingRead <;> simp [nextTransfer, hwrite, hread]

theorem exec_acknowledgedRead {s : State} (htransfer : s.head.transfer = some .read) (values : InputValues) (start : Nat) :
    exec (.inputReadEnd true values start) s = .next (readEnds values start s) :=
  congrArg Host.Outcome.next (by rw [inputReadEnds, if_pos htransfer, if_pos rfl])

section
variable {s t : State} (h : untouched t = untouched s)
include h

theorem head_of_untouched :
    t.head.silent = s.head.silent ∧ t.head.transfer = s.head.transfer ∧ t.head.retried = s.head.retried ∧
    t.head.pendingRead = s.head.pendingRead ∧ t.head.supply = s.head.supply ∧ t.head.linesSet = s.head.linesSet ∧
    t.head.interrupt = s.head.interrupt := by
  have same {α : Type} (f : Head → α) : f (untouched t).head = f (untouched s).head := by rw [h]
  exact ⟨same (·.silent), same (·.transfer), same (·.retried), same (·.pendingRead), same (·.supply), same (·.linesSet),
    same (·.interrupt)⟩

theorem rest_of_untouched :
    t.ring.channels = s.ring.channels ∧ t.ring.trip = s.ring.trip ∧ t.ring.budget = s.ring.budget ∧
    t.capture = s.capture ∧ t.slots = s.slots ∧ t.warp = s.warp ∧ t.mode = s.mode := by
  have same {α : Type} (f : State → α) : f (untouched t) = f (untouched s) := by rw [h]
  exact ⟨same (·.ring.channels), same (·.ring.trip), same (·.ring.budget), same (·.capture), same (·.slots), same (·.warp),
    same (·.mode)⟩

end

/-- The monitor after an acknowledged read: its transfer, its pending transfers and the retry are new. -/
theorem head_after_read {s m : State} (hm : untouched m = untouched (begun s)) :
    ∃ x w p, (if s.head.silent = true then m.head else nextTransfer m.head) =
        { m.head with transfer := x, retried := false, pendingWrite := w, pendingRead := p } ∧
      (s.head.silent = true → x = some (.setUp s.ring.demand) ∧ w = m.head.pendingWrite ∧ p = true) ∧
      (s.head.silent = false → w = none ∧
        (∀ v, m.head.pendingWrite = some v → x = some (.supplyWrite v) ∧ p = s.head.pendingRead) ∧
        (m.head.pendingWrite = none → p = false ∧ x = if s.head.pendingRead = true then some .read else none)) := by
  obtain ⟨-, htransfer, hretried, hread, -⟩ := head_of_untouched hm
  by_cases hsilent : s.head.silent = true
  · have hbegun : begun s = recover s := if_pos hsilent
    rw [hbegun] at htransfer hretried hread
    refine ⟨m.head.transfer, m.head.pendingWrite, m.head.pendingRead, ?_, fun _ => ⟨htransfer, rfl, hread⟩,
      fun h => absurd hsilent (by simp [h])⟩
    rw [if_pos hsilent, ← show m.head.retried = false from hretried]
  · have hbegun : begun s = s := if_neg hsilent
    rw [hbegun] at hread
    obtain ⟨hwrite, hsome, hnone⟩ := nextTransfer_transfer m.head
    refine ⟨_, _, _, (if_neg hsilent).trans (nextTransfer_frame m.head), fun h => absurd h hsilent,
      fun _ => ⟨rfl, ?_, ?_⟩⟩
    · rwa [hread] at hsome
    · rwa [hread] at hnone

/-- Settles O58: the read's four stages, taken from the state in which a silence has ended to the state before the next
transfer. -/
theorem readAcceptsInputs : Obligations.ReadAcceptsInputs := by
  intro values start s htransfer hentries
  have asks := asksPending_begun htransfer
  have line := line_meetInputs (values := values) (start := start) asks
  have entries : (begun s).faults.entries.length = 12 := by rw [begun_frame]; exact hentries
  obtain ⟨a, b, c, stages⟩ := stages_meetInputs (values := values) (start := start) entries asks
  have next := exec_acknowledgedRead htransfer values start
  rw [readEnds_eq] at next
  generalize meetInputs values start (begun s) = m at line stages next
  obtain ⟨x, w, p, head, silent, speaking⟩ := head_after_read stages.untouched.2.2
  rw [head] at next
  obtain ⟨x₀, r₀, p₀, hbegun⟩ : ∃ x r p, begun s =
    { s with head := { s.head with silent := false, transfer := x, retried := r, pendingRead := p } } :=
    ⟨_, _, _, begun_frame s⟩
  rw [hbegun] at line stages
  clear asks entries hbegun head
  obtain ⟨hsilent, -, -, -, hsupply, hlinesSet, hinterrupt⟩ := head_of_untouched stages.untouched.2.2
  refine ⟨_, next, fun i => ?line, hsilent, rfl, hsupply, hlinesSet, hinterrupt, ?rest⟩
  case line =>
    intro l v a
    have lineI : Head.line { m.head with transfer := x, retried := false, pendingWrite := w, pendingRead := p } i =
        met v start l := by
      have meets := line i
      cases i <;> exact meets
    exact ⟨fun h => lineI.trans (met_of_accepted h), fun h hnew => lineI.trans (met_of_new h hnew),
      fun n h hc hlate => lineI.trans ((met_of_candidate h hc).trans (if_pos hlate)),
      fun n h hc hsoon => lineI.trans ((met_of_candidate h hc).trans (if_neg (Nat.not_le.mpr hsoon)))⟩
  case rest =>
    intro leaking write
    have pendingWrite : m.head.pendingWrite = write := stages.pendingWrite
    rw [pendingWrite] at silent speaking
    refine ⟨silent, speaking, ?_⟩
    intro bandStays presenceStays band dark
    have warmHot : bandStays ↔ ¬ changes .warm s m ∧ ¬ changes .hot s m :=
      (and_congr (not_changes_iff (i := .warm)) (not_changes_iff (i := .hot))).symm
    have present : presenceStays ↔ ¬ changes .present s m := (not_changes_iff (i := .present)).symm
    have presentChanges (h : ¬ presenceStays) : changes .present s m := not_not.mp (mt present.mpr h)
    obtain ⟨channels, trip, budget, capture, slots, warp, mode⟩ := rest_of_untouched stages.untouched.2.2
    refine ⟨stages.leaked, stages.lock_kept, fun h => ?bandKept, fun h => ?bandCurrent, stages.band_changed,
      fun hlit hleaks h => ?lit, fun h => ?presenceKept, fun h => stages.presence_told (presentChanges h),
      fun h => stages.presence_followed (presentChanges h), fun a ha hflat hstate hends => ?flat, fun hkept => ?acquisitionKept,
      channels, trip, budget, capture, slots, warp, mode⟩
    case bandKept =>
      obtain ⟨hw, hh⟩ := warmHot.mp h
      obtain ⟨view, -⟩ := stages.band_kept hw hh
      exact ⟨congrArg (·.1) view, congrArg (·.2.1) view, congrArg (·.2.2.1) view, congrArg (·.2.2.2) view⟩
    case bandCurrent =>
      exact stages.band_current ((not_and_or.mp (mt warmHot.mpr h)).imp not_not.mp not_not.mp)
    case lit =>
      obtain ⟨hstate, hkept, hsettled⟩ := stages.lit_kept hlit hleaks (present.mp h)
      refine ⟨hstate, fun hstays => ?_, fun hband hone => hsettled hband (hone.imp ?_ ?_)⟩
      · obtain ⟨hw, hh⟩ := warmHot.mp hstays
        exact hkept hw hh
      · exact (not_changes_iff (i := .warm)).mpr
      · exact (not_changes_iff (i := .hot)).mpr
    case presenceKept =>
      obtain ⟨-, view⟩ := stages.present.stays (mt stages.presentChanges.mp (present.mp h))
      have view := view.trans stages.presenceView
      exact ⟨congrArg (·.1) view, congrArg (·.2.1) view, congrArg (·.2.2) view⟩
    case flat => exact stages.changesOnce.ended ha hflat hstate ((endsFlat_iff _).mpr hends)
    case acquisitionKept =>
      have ends (hlit : m.ring.state = .lit) : m.ring.state.endsFlat = false := by rw [hlit]; rfl
      exact stages.changesOnce.kept (hkept.imp_right (Or.imp_right ends))

end Sys2Proof.Machine.InputReads

/-! Proofs: the queues of the two ports and the transmitter, over every command (R110 to R112, R164 to R171). -/

namespace Sys2Proof.Machine.PortQueues

open InputReads (link_takeNext notices_takeNext)

/-! ### What the ports hold -/

/-- What the ports' queues, the transmitter and the Warp Engine's discarding depend on. -/
structure Ports where
  tetherQueue : List Waiting
  serviceQueue : List Waiting
  up : Bool
  sending : Option Record
  replies : List Record
  notices : List Record
  images : List Record
  serviceReplies : List Record
  op : Option FlashOp
  engine : Engine
  discarding : Bool

/-- The ports of a state. -/
def ports (s : State) : Ports where
  tetherQueue := s.tetherQueue
  serviceQueue := s.serviceQueue
  up := s.tether.link = .up
  sending := s.tether.sending
  replies := s.tether.replies
  notices := s.tether.notices
  images := s.tether.images
  serviceReplies := s.service.replies
  op := s.store.op
  engine := s.warp.engine
  discarding := s.warp.discarding

/-- The state with a notice queued. -/
def noticed (r : Record) (s : State) : State := { s with tether := s.tether.pushNotice r }

/-- From `s` on the ports have done nothing but queue notices. -/
inductive Notifies (s : State) : State → Prop
  | same {t : State} (h : ports t = ports s) : Notifies s t
  | notice {t u : State} (r : Record) (h : Notifies s t) (hu : ports u = ports (noticed r t)) : Notifies s u

namespace Notifies

theorem of_ports {s t u : State} (h : Notifies t u) (hs : ports t = ports s) : Notifies s u := by
  induction h with
  | same h => exact .same (h.trans hs)
  | notice r _ hu ih => exact .notice r ih hu

theorem refl (s : State) : Notifies s s := .same rfl

theorem step {s t u : State} (h : Notifies s t) (hu : ports u = ports t) : Notifies s u := by
  cases h with
  | same h => exact .same (hu.trans h)
  | notice r h ht => exact .notice r h (hu.trans ht)

theorem trans {s t u : State} (h : Notifies s t) (h' : Notifies t u) : Notifies s u := by
  induction h' with
  | same h' => exact h.step h'
  | notice r _ hu ih => exact .notice r ih hu

theorem after {s t u : State} (h' : Notifies t u) (h : Notifies s t) : Notifies s u := h.trans h'

/-- What a change outside the ports and a queued notice keep, every sequence of them keeps. -/
theorem keeps {P : State → Prop} (hports : ∀ {s t}, ports t = ports s → P s → P t)
    (hnotice : ∀ {s} r, P s → P (noticed r s))
    {s t : State} (h : Notifies s t) (hs : P s) : P t := by
  induction h with
  | same h => exact hports h hs
  | notice r _ hu ih => exact hports hu (hnotice r ih)

end Notifies

theorem notifies_pushNotice (kind : Nat) (l : List Byte) (s : State) : Notifies s (pushNotice kind l s) :=
  .notice ⟨kind, 0, l⟩ (.refl s) rfl

/-! ### Operations that leave the ports -/

@[simp] theorem ports_setView (v : View) (x : ViewSlot) (s : State) : ports (s.setView v x) = ports s := by cases v <;> rfl

@[simp] theorem ports_setMapLink (p : Port) (x : Option MapLink) (s : State) : ports (s.setMapLink p x) = ports s := by
  cases p <;> rfl

@[simp] theorem ports_setSkip (v : View) (n : Nat) (s : State) : ports (s.setSkip v n) = ports s := by cases v <;> rfl

@[simp] theorem ports_countFramingError (p : Port) (s : State) : ports (countFramingError p s) = ports s := by cases p <;> rfl

@[simp] theorem ports_clearErrors (p : Port) (s : State) : ports (clearErrors p s) = ports s := by cases p <;> rfl

@[simp] theorem ports_setDemand (v : Bool) (s : State) : ports (setDemand v s) = ports s := by
  obtain ⟨r, h, e⟩ := setDemand_effect v s
  rw [e]; rfl

@[simp] theorem ports_entryEnd (e : WarpEntry) (s : State) : ports (entryEnd e s) = ports s := by
  obtain ⟨x, y, a, b, h⟩ := entryEnd_effect e s
  rw [h]; rfl

@[simp] theorem ports_freeIfDone (n : Nat) (s : State) : ports (freeIfDone n s) = ports s := by
  obtain ⟨a, b, h⟩ := freeIfDone_effect n s
  rw [h]; rfl

@[simp] theorem ports_addUse (v : View) (n : Nat) (s : State) : ports (addUse v n s) = ports s := by
  obtain ⟨a, b, h⟩ := addUse_effect v n s
  rw [h]; rfl

@[simp] theorem ports_addFrameUses (l : List ViewNote) (s : State) : ports (addFrameUses l s) = ports s := by
  obtain ⟨a, b, h⟩ := addFrameUses_effect l s
  rw [h]; rfl

@[simp] theorem ports_dropFrameUses (l : List ViewNote) (s : State) : ports (dropFrameUses l s) = ports s := by
  obtain ⟨a, b, h⟩ := dropFrameUses_effect l s
  rw [h]; rfl

@[simp] theorem ports_retireActive (v : View) (old : Nat) (n : Option Nat) (s : State) :
    ports (retireActive v old n s) = ports s := by
  obtain ⟨p, a, b, h⟩ := retireActive_effect v old n s
  rw [h]; rfl

@[simp] theorem ports_cancelPending (v : View) (s : State) : ports (cancelPending v s) = ports s := by
  obtain ⟨p, a, b, h⟩ := cancelPending_effect v s
  rw [h]; rfl

@[simp] theorem ports_requestBuild (v : View) (n : Nat) (s : State) : ports (requestBuild v n s) = ports s := by
  obtain ⟨a, b, h⟩ := requestBuild_effect v n s
  rw [h]; rfl

@[simp] theorem ports_setPendingChange (v : View) (p : PendingChange) (s : State) :
    ports (setPendingChange v p s) = ports s := ports_setView ..

@[simp] theorem ports_modifyBuffer (v : View) (n : Nat) (f : MeshBuffer → MeshBuffer) (s : State) :
    ports (modifyBuffer v n f s) = ports s := ports_setView ..

@[simp] theorem ports_countSkip (v : View) (s : State) : ports (countSkip v s) = ports s := ports_setSkip ..

@[simp] theorem ports_countSkips (l : List ViewNote) (s : State) : ports (countSkips l s) = ports s := by
  obtain ⟨c, h⟩ := countSkips_effect l s
  rw [h]; rfl

@[simp] theorem ports_writeMap (m : MapName) (l : List Nat) (s : State) : ports (writeMap m l s) = ports s := by
  obtain ⟨c, d, h⟩ := writeMap_effect m l s
  rw [h]; rfl

@[simp] theorem ports_writeRegion (r : MapLink) (l : List Nat) (s : State) : ports (writeRegion r l s) = ports s := by
  obtain ⟨c, d, a, b, h⟩ := writeRegion_effect r l s
  rw [h]; rfl

@[simp] theorem ports_darkRefresh (l : List Nat) (s : State) : ports (darkRefresh l s) = ports s := by
  obtain ⟨c, d, a, b, h⟩ := darkRefresh_effect l s
  rw [h]; rfl

@[simp] theorem ports_balanceHandOver (r : SectorStats) (s : State) : ports (balanceHandOver r s) = ports s := by
  obtain ⟨r, c, h⟩ := balanceHandOver_effect r s
  rw [h]; rfl

@[simp] theorem ports_startNextTransfer (s : State) : ports (startNextTransfer s) = ports s := by
  unfold startNextTransfer
  split
  · rfl
  · split <;> rfl

@[simp] theorem ports_askRead (s : State) : ports (askRead s) = ports s := by
  unfold askRead
  split <;> rfl

@[simp] theorem ports_noteFailure (x : Transfer) (s : State) : ports (noteFailure x s) = ports s := by
  cases x <;> rfl

/-! ### Operations that only queue notices -/

theorem notifies_raise (k : FaultKind) (s : State) : Notifies s (raise k s) := by
  unfold raise
  split
  · exact .same rfl
  · dsimp only
    split
    · exact .same rfl
    · exact .of_ports (notifies_pushNotice ..) rfl

theorem notifies_raiseTimes (k : FaultKind) (n : Nat) : ∀ s : State, Notifies s (raiseTimes k n s) := by
  induction n with
  | zero => exact .refl
  | succ n ih => exact fun s => (notifies_raise k s).trans (ih _)

theorem notifies_endAcquisition (o : AcqOutcome) (s : State) : Notifies s (endAcquisition o s) := by
  unfold endAcquisition
  split
  · exact .refl s
  · exact .of_ports (notifies_pushNotice ..) rfl

theorem notifies_setRingState (x : RingState) (s : State) : Notifies s (setRingState x s) := by
  unfold setRingState
  split
  · exact .refl s
  · dsimp only
    split
    · exact .of_ports (notifies_endAcquisition ..) rfl
    · exact .same rfl

theorem notifies_lockOff (c : LockCause) (s : State) : Notifies s (lockOff c s) :=
  .step (t := setRingState .lockedOff { s with ring.codes := zeroCodes, ring.causes := s.ring.causes.join c })
    (.of_ports (notifies_setRingState ..) rfl) (ports_setDemand ..)

theorem notifies_headLock (c : LockCause) (s : State) : Notifies s (headLock c s) := by
  unfold headLock
  split
  · exact .refl s
  · exact .same rfl
  · exact notifies_lockOff c s

theorem notifies_lightRing (s : State) : Notifies s (lightRing s) := .step (notifies_setRingState .lit s) rfl

theorem notifies_presenceReport (b : Bool) (s : State) : Notifies s (presenceReport b s) := by
  unfold presenceReport
  dsimp only
  split
  · exact .of_ports (notifies_setRingState ..) rfl
  · exact .of_ports (notifies_setRingState ..) rfl
  · exact .of_ports (notifies_lightRing _) rfl
  · exact .of_ports (notifies_setRingState ..) rfl
  · exact .same rfl

theorem notifies_adopt (v : View) (n : Nat) (s : State) : Notifies s (adopt v n s) :=
  .of_ports (notifies_pushNotice ..)
    ((ports_retireActive ..).trans (.trans (b := ports (modifyBuffer v _ _ _)) rfl
      ((ports_modifyBuffer ..).trans (ports_setView ..))))

theorem notifies_makeNull (v : View) (s : State) : Notifies s (makeNull v s) :=
  .of_ports (notifies_pushNotice ..) ((ports_retireActive ..).trans (ports_setView ..))

theorem notifies_actOnPending (v : View) (s : State) : Notifies s (actOnPending v s) := by
  unfold actOnPending
  split
  · exact notifies_adopt v _ s
  · exact notifies_makeNull v s
  · exact .refl s

theorem notifies_adoptViews (s : State) : Notifies s (adoptViews s) :=
  (notifies_actOnPending .a s).trans (notifies_actOnPending .b _)

theorem notifies_deliver (m : Option (AcqKind × Nat)) (l : List Nat) (s : State) : Notifies s (deliver m l s) := by
  unfold deliver
  split
  · exact .refl s
  · split
    · split
      · exact .same rfl
      · exact .of_ports (notifies_endAcquisition ..) (ports_writeMap ..)
    · exact .refl s

theorem notifies_loadEnd (o : LoadOutcome) (s : State) : Notifies s (loadEnd o s) :=
  .of_ports (notifies_pushNotice ..) rfl

/-! ### The frame events -/

theorem notifies_exposeFrame (s : State) : Notifies s (exposeFrame s) := by
  refine (notifies_adoptViews s).step ?_
  unfold exposeFrame
  dsimp only
  generalize s.classify = c
  generalize hnotes : (latchMaps (noteFrameStart (adoptViews s))).viewNotes = notes
  have hclaim (u : State) : ports (claimOrSkip c notes u) = ports u := by
    unfold claimOrSkip
    split
    · rfl
    · split
      · exact ports_countSkips ..
      · rfl
  exact (hclaim _).trans (ports_addFrameUses ..)

theorem notifies_missFrame (s : State) : Notifies s (missFrame s) := by
  refine (notifies_adoptViews s).step ?_
  unfold missFrame
  dsimp only
  split
  · exact ports_countSkips ..
  · rfl

theorem notifies_timerFrameStart (s : State) : Notifies s (timerFrameStart s) := by
  unfold timerFrameStart
  split
  · exact .refl s
  · exact .refl s
  · exact .of_ports (notifies_missFrame _) rfl
  · exact .of_ports (notifies_exposeFrame _) rfl

theorem notifies_reportOpens (l : List Nat) : ∀ s : State, Notifies s (l.foldl reportOpen s) := by
  induction l with
  | nil => exact .refl
  | cons k l ih =>
    intro s
    have hopen : Notifies s (reportOpen s k) := .of_ports (notifies_raise ..) rfl
    exact .after (ih _) hopen

theorem notifies_tripAfter (tag cause : Nat) (samples : List Nat) (before : Nat) (s : State) :
    Notifies s (tripAfter tag cause samples before s) := by
  have hdim (u : State) : Notifies u (dimTrip tag cause samples u) :=
    .after (notifies_raise ..) (.of_ports (notifies_setRingState ..) rfl)
  have hoff (u : State) : Notifies u (offTrip tag cause u) :=
    .after (notifies_raise ..) (.of_ports (notifies_lockOff ..) rfl)
  unfold tripAfter
  dsimp only
  split
  · split
    · refine .after (hoff _) ?_
      split
      · exact hdim s
      · exact .refl s
    · split
      · exact hdim s
      · exact .refl s
  · exact .refl s

theorem notifies_superviseExposureEnd (lit : Bool) (tag : Nat) (samples : List Nat) (s : State) :
    Notifies s (superviseExposureEnd lit tag samples s) := by
  unfold superviseExposureEnd
  split
  · unfold takeSamples
    dsimp only
    refine .after (notifies_tripAfter ..) ?_
    have hopens (x : SampleSet) (l : List Nat) : Notifies s (l.foldl reportOpen { s with sup.sample := some x }) :=
      .of_ports (notifies_reportOpens ..) rfl
    exact (hopens _ _).step rfl
  · exact .refl s

theorem notifies_endExposure (samples : List Nat) (s : State) : Notifies s (endExposure samples s) := by
  unfold endExposure
  split
  · rename_i f _ _
    refine (notifies_superviseExposureEnd (f.cls == .lit) f.tag samples s).step ?_
    unfold beginReadout
    split <;> rfl
  · exact .refl s

theorem ports_sensorRowArrives (l : List Nat) (s : State) : ports (sensorRowArrives l s) = ports s := by
  unfold sensorRowArrives
  split
  · split
    · split
      · unfold litRow
        dsimp only
        split <;> rfl
      · rfl
    · rfl
  · rfl

theorem notifies_handOverStatistics (f : Frame) (s : State) : Notifies s (handOverStatistics f s) := by
  unfold handOverStatistics
  split
  · exact .refl s
  · exact .step (.trans (.same (ports_balanceHandOver ..)) (notifies_deliver ..)) rfl

theorem notifies_completeDark (s : State) : Notifies s (completeDark s) := by
  unfold completeDark
  split
  · rename_i f _ _
    split
    · refine .trans (.same ((ports_dropFrameUses f.views (endReadout s)).trans rfl)) ?_
      unfold handOverZoneSums
      split
      · exact .same (ports_darkRefresh ..)
      · exact notifies_deliver ..
      · exact .refl _
    · exact .refl s
  · exact .refl s

theorem notifies_sensorTimesOut (s : State) : Notifies s (sensorTimesOut s) := by
  unfold sensorTimesOut
  split
  · refine (notifies_raise .sensorTimeout s).step ((ports_dropFrameUses ..).trans ?_)
    unfold abandonSlot
    split
    · exact ports_countSkips ..
    · rfl
  · exact .refl s

/-! ### The head inputs -/

theorem notifies_reportBand (s : State) : Notifies s (reportBand s) := by
  unfold reportBand
  split
  · exact .refl s
  · split
    · exact .refl s
    · split
      · exact .of_ports (notifies_raise ..) rfl
      · exact .same rfl

theorem notifies_actOnAccepted (i : HeadInput) (v : Bool) (s : State) : Notifies s (actOnAccepted i v s) := by
  unfold actOnAccepted
  split
  · exact (notifies_raise ..).trans (notifies_headLock ..)
  · exact .refl s
  · exact notifies_reportBand s
  · exact notifies_reportBand s
  · exact notifies_presenceReport ..
  · exact (notifies_presenceReport ..).trans (notifies_raise ..)

theorem notifies_meetInput (i : HeadInput) (v : Bool) (start : Nat) (s : State) : Notifies s (meetInput i v start s) := by
  rw [InputReads.meetInput_eq]
  split
  · exact .same rfl
  · exact .of_ports (notifies_actOnAccepted ..) rfl

theorem notifies_meetInputs (v : InputValues) (start : Nat) (s : State) : Notifies s (meetInputs v start s) :=
  .after (notifies_meetInput ..) (.after (notifies_meetInput ..) (.after (notifies_meetInput ..) (notifies_meetInput ..)))

theorem notifies_transferRefused (x : Transfer) (s : State) : Notifies s (transferRefused x s) := by
  unfold transferRefused
  split
  · exact .same (by simp)
  · split
    · exact .after (notifies_headLock ..) (.of_ports (notifies_raise ..) (ports_noteFailure x s))
    · exact .same rfl

theorem notifies_inputReadEnds (ack : Bool) (v : InputValues) (start : Nat) (s : State) :
    Notifies s (inputReadEnds ack v start s) := by
  unfold inputReadEnds
  split
  · split
    · unfold readEnds
      split
      · exact .of_ports (notifies_meetInputs ..) rfl
      · exact (notifies_meetInputs ..).step (ports_startNextTransfer _)
    · exact notifies_transferRefused ..
  · exact .refl s

theorem notifies_supplyWriteEnds (ack : Bool) (s : State) : Notifies s (supplyWriteEnds ack s) := by
  unfold supplyWriteEnds
  split
  · split
    · exact .same (ports_startNextTransfer _)
    · exact notifies_transferRefused ..
  · exact .refl s

theorem notifies_setUpWriteEnds (ack : Bool) (s : State) : Notifies s (setUpWriteEnds ack s) := by
  unfold setUpWriteEnds
  split
  · split
    · exact .same (ports_startNextTransfer _)
    · exact notifies_transferRefused ..
  · exact .refl s

theorem ports_interruptTakes (b : Bool) (s : State) : ports (interruptTakes b s) = ports s := by
  unfold interruptTakes
  split
  · exact ports_askRead _
  · rfl

theorem ports_confirmationExpires (i : HeadInput) (s : State) : ports (confirmationExpires i s) = ports s := by
  unfold confirmationExpires
  split
  · exact ports_askRead _
  · rfl

/-! ### The events of the ports -/

/-- A port's reply queue has a free place besides the one held for a delayed outcome. -/
def replyRoom (p : Port) (s : State) : Prop := s.replyCount p + s.heldPlaces p < replyPlaces p

/-- One event at the ports: everything that a command can do to their queues, to the transmitter and to the Warp Engine's
discarding is a sequence of these. -/
inductive PortEvent : State → State → Prop
  /-- nothing but notices -/
  | notices {s t : State} (h : Notifies s t) : PortEvent s t
  /-- an image record of a warp that keeps its records takes a free place -/
  | image (r : Record) (s : State) (hengine : s.warp.engine ≠ .idle) (hkeeps : s.warp.discarding = false)
      (hroom : s.imageRoom = true) : PortEvent s (pushImage r s)
  /-- the Warp Engine goes on: over a link that is not UP a warp discards, or does as before -/
  | warp (w : Warp) (s : State)
      (h : s.tether.link ≠ .up → w.engine ≠ .idle →
        w.discarding = true ∨ s.warp.engine ≠ .idle ∧ w.discarding = s.warp.discarding) :
      PortEvent s { s with warp := w }
  | reply (p : Port) (r : Record) (s : State) (hroom : replyRoom p s) : PortEvent s (pushReply p r s)
  /-- the delayed reply takes the place held for it -/
  | outcome (q : Req) (r : Record) (s : State) (h : s.store.op = some (.check q)) :
      PortEvent s (pushReply q.port r { s with store.op := none })
  /-- a flash operation begins or ends -/
  | operation (x : Option FlashOp) (s : State) (h : ∀ q, x = some (.check q) → replyRoom q.port s) :
      PortEvent s { s with store.op := x }
  | joins (p : Port) (w : Waiting) (s : State) (h : (s.queueOf p).length < requestPlaces p) :
      PortEvent s (s.setQueue p (s.queueOf p ++ [w]))
  | taken (p : Port) (s : State) : PortEvent s (s.taken p)
  | sent (s : State) : PortEvent s { s with tether := { s.tether with sending := none }.takeNext }
  | read (s : State) : PortEvent s { s with service.replies := s.service.replies.drop 1 }
  | linkUp (s : State) : PortEvent s { s with tether.link := .up }
  | linkLost (w : Warp) (s : State) (h : w.engine ≠ .idle → w.discarding = true) :
      PortEvent s { s with tether := s.tether.lost, warp := w }
  | reset (x : Straps) (t : Tether) (s u : State) (hsending : t.sending = none) (hreplies : t.replies = [])
      (hnotices : t.notices = []) (himages : t.images = []) : PortEvent s (resetBlocks x t u)

/-- From `s` to `t` the ports have gone through a sequence of events. -/
def Moves (s t : State) : Prop := Relation.ReflTransGen PortEvent s t

namespace Moves

variable {s t u : State}

theorem refl (s : State) : Moves s s := Relation.ReflTransGen.refl

theorem trans (h : Moves s t) (h' : Moves t u) : Moves s u := Relation.ReflTransGen.trans h h'

theorem after (h' : Moves t u) (h : Moves s t) : Moves s u := h.trans h'

theorem event (h : PortEvent s t) : Moves s t := Relation.ReflTransGen.single h

theorem notices (h : Notifies s t) : Moves s t := event (.notices h)

theorem same (h : ports t = ports s) : Moves s t := notices (.same h)

theorem of_ports (h : Moves t u) (hs : ports t = ports s) : Moves s u := h.after (same hs)

/-- What every event keeps, every sequence of events keeps. -/
theorem keeps {P : State → Prop} (hevent : ∀ {s t}, PortEvent s t → P s → P t) (h : Moves s t) (hs : P s) : P t := by
  induction h with
  | refl => exact hs
  | tail _ he ih => exact hevent he ih

end Moves

/-! ### Resets -/

section
variable (s u : State)

theorem moves_resetPart (x : Straps) (t : Tether) (hsending : t.sending = none) (hreplies : t.replies = [])
    (hnotices : t.notices = []) (himages : t.images = []) : Moves s (resetPart x t u) := by
  have hreset : Moves s (resetBlocks x t u) := .event (.reset x t s u hsending hreplies hnotices himages)
  unfold resetPart
  split
  · exact hreset
  · exact .after (.notices (notifies_loadEnd ..)) hreset

theorem moves_resetWithStraps (x : Straps) : Moves s (resetWithStraps x u) := moves_resetPart s u x _ rfl rfl rfl rfl

theorem moves_carryOutRestart : Moves s (carryOutRestart u) := by
  unfold carryOutRestart
  split <;> exact moves_resetPart s u _ _ rfl rfl rfl rfl

end

/-! ### The Warp Engine -/

theorem moves_tileDone {s : State} (h : s.warp.engine ≠ .idle) : Moves s (tileDone s) := by
  unfold tileDone
  split
  · exact .refl s
  · split
    · exact .same rfl
    · exact .after (.same (ports_entryEnd ..)) (.event (.warp _ s fun _ _ => .inr ⟨h, rfl⟩))

theorem moves_placeBegin (s : State) : Moves s (placeBegin s) := by
  unfold placeBegin
  split
  · rename_i e _ hengine _ _
    split
    · rename_i hplace
      obtain ⟨hkeeps, hroom⟩ := hplace
      refine .after (.event (.image _ _ ?_ ?_ ?_)) (.same (ports_setSkip ..))
      · simp [hengine]
      · simpa using hkeeps
      · simpa [State.imageRoom] using hroom
    · exact .refl s
  · exact .refl s

theorem moves_placeTile (s : State) : Moves s (placeTile s) := by
  unfold placeTile
  split
  · rename_i r hengine _
    have hruns : s.warp.engine ≠ .idle := by simp [hengine]
    split
    · rename_i hplace
      obtain ⟨hkeeps, hroom⟩ := hplace
      exact .after (moves_tileDone hruns) (.of_ports (.event (.image r _ hruns hkeeps hroom)) rfl)
    · exact .refl s
  · exact .refl s

theorem moves_placeEnd (s : State) : Moves s (placeEnd s) := by
  unfold placeEnd
  split
  · rename_i o hengine _
    have hcloses : s.warp.engine ≠ .idle := by simp [hengine]
    split
    · exact .event (.warp _ s fun _ hw => absurd rfl hw)
    · rename_i hkeeps
      split
      · rename_i hroom
        exact .after (.event (.warp _ (pushImage (frameEndRecord o) s) fun _ hw => absurd rfl hw))
          (.event (.image _ s hcloses (by simpa using hkeeps) hroom))
      · exact .refl s
  · exact .refl s

theorem moves_startWarp (s : State) : Moves s (startWarp s) := by
  unfold startWarp
  split
  · split
    · rename_i hup
      exact .event (.warp _ s fun hdown => absurd hup hdown)
    · dsimp only
      split
      · exact .after (.same (ports_countSkip ..)) (.event (.warp _ s fun _ _ => .inl rfl))
      · exact .event (.warp _ s fun _ _ => .inl rfl)
  · exact .refl s

theorem moves_pumpWarp (s : State) : Moves s (pumpWarp s) :=
  .after (moves_placeBegin _) (.after (moves_startWarp _) (.after (moves_placeEnd _)
    (.after (moves_placeTile _) (moves_placeBegin s))))

theorem moves_appendEntries (l : List WarpEntry) (s : State) : Moves s (appendEntries l s) :=
  .of_ports (moves_pumpWarp _) rfl

theorem raiseTimes_warp (k : FaultKind) (n : Nat) (s : State) : (raiseTimes k n s).warp = s.warp := by
  obtain ⟨f, t, h⟩ := raiseTimes_effect k n s
  rw [h]

theorem moves_tileCompletes (l : List Nat) (s : State) : Moves s (tileCompletes l s) := by
  unfold tileCompletes
  split
  · rename_i e _ hengine _ _
    unfold formTile closeTile
    generalize (noteBadWords l s).tileLevels e (noteBadWords l s).warp.next = levels
    refine .after (t := raiseTimes .frameStoreEcc (tileErrors levels) (noteBadWords l s)) ?_
      (.notices (.of_ports (notifies_raiseTimes ..) rfl))
    generalize hu : raiseTimes .frameStoreEcc (tileErrors levels) (noteBadWords l s) = u
    have hwarp : u.warp.engine ≠ .idle := by
      rw [← hu, raiseTimes_warp]
      simp [noteBadWords, hengine]
    unfold finishTile
    split
    · exact .after (moves_pumpWarp _) (moves_tileDone hwarp)
    · exact .of_ports (moves_pumpWarp _) rfl
  · exact .refl s

theorem ports_endEntries (l : List WarpEntry) : ∀ s : State, ports (endEntries l s) = ports s := by
  induction l with
  | nil => exact fun _ => rfl
  | cons e l ih => exact fun s => (ih (entryEnd e s)).trans (ports_entryEnd e s)

theorem moves_truncateWarp (e : WarpEntry) {s : State} (h : s.warp.engine ≠ .idle) : Moves s (truncateWarp e s) := by
  unfold truncateWarp
  split
  · exact .event (.warp _ s fun _ hw => absurd rfl hw)
  · exact .event (.warp _ s fun _ _ => .inr ⟨h, rfl⟩)

theorem moves_setupWarps (s : State) : Moves s (setupWarps s) := by
  unfold setupWarps
  split
  · rename_i e rest hengine _
    split
    · refine .after (moves_pumpWarp _) (.after (.same (ports_endEntries ..)) ?_)
      exact .of_ports (moves_truncateWarp e (by simp [hengine])) rfl
    · exact .after (moves_pumpWarp _) (.same (ports_endEntries ..))
  · exact .after (moves_pumpWarp _) (.same (ports_endEntries ..))

theorem moves_completeLit (s : State) : Moves s (completeLit s) := by
  unfold completeLit
  split
  · rename_i f _ _
    split
    · refine .after ?_ (.notices (.of_ports (notifies_handOverStatistics f (endReadout s)) rfl))
      unfold completeSlot
      split
      · exact .of_ports (moves_appendEntries ..) (ports_freeIfDone ..)
      · exact .same (ports_dropFrameUses ..)
    · exact .refl s
  · exact .refl s

/-! ### The transmitter and the link -/

theorem moves_sendingEnds (s : State) : Moves s (sendingEnds s) := by
  unfold sendingEnds
  split
  · exact .refl s
  · split
    · exact moves_carryOutRestart ..
    · exact .after (moves_pumpWarp _) (.event (.sent s))

theorem moves_trainingSucceeds (s : State) : Moves s (trainingSucceeds s) := by
  unfold trainingSucceeds
  split
  · exact .of_ports (.event (.linkUp { s with tether.rx := [] })) rfl
  · exact .refl s

theorem ports_trainingFails (s : State) : ports (trainingFails s) = ports s := by
  unfold trainingFails
  split
  · rename_i h
    simp [ports, h]
  · rfl

theorem ports_retrainExpires (s : State) : ports (retrainExpires s) = ports s := by
  unfold retrainExpires
  split
  · rename_i h
    simp [ports, h]
  · rfl

theorem raise_withWarp (k : FaultKind) (w : Warp) (s : State) :
    raise k { s with warp := w } = { raise k s with warp := w } := by
  unfold raise State.raiseTag
  split
  · rfl
  · dsimp only
    split <;> rfl

/-- The loss of the link up to the restart that may follow it: from its discarding on, the engine goes on as ever. -/
theorem moves_warpLinkLost (s : State) : Moves s (warpLinkLost (raise .linkLost { s with tether := s.tether.lost })) := by
  have hlost (w : Warp) (h : w.engine ≠ .idle → w.discarding = true) :
      Moves s { raise .linkLost { s with tether := s.tether.lost } with warp := w } := by
    rw [← raise_withWarp]
    exact .after (.notices (notifies_raise ..)) (.event (.linkLost w s h))
  generalize hu : raise .linkLost { s with tether := s.tether.lost } = u at hlost ⊢
  unfold warpLinkLost
  split
  · rename_i e _ hengine _
    dsimp only
    generalize hx : (if e.purpose = .live ∧ u.warp.discarding = false then _ else _ : State) = x
    have hports : ports x = ports { u with warp := { u.warp with discarding := true, waiting := .nothing } } := by
      rw [← hx]
      split
      · exact ports_countSkip ..
      · rfl
    have hmoves : Moves s x := .after (.same hports) (hlost _ fun _ => rfl)
    have hruns : x.warp.engine ≠ .idle := by
      rw [show x.warp.engine = u.warp.engine from congrArg Ports.engine hports, hengine]
      simp
    split
    · exact .after (moves_pumpWarp _) (.after (moves_tileDone hruns) hmoves)
    · exact .after (moves_pumpWarp _) hmoves
  · exact .after (moves_pumpWarp _) (hlost _ fun _ => rfl)
  · exact .after (moves_pumpWarp _) (hlost _ fun _ => rfl)
  · rename_i hidle
    exact .after (moves_pumpWarp _) (hlost u.warp fun h => absurd hidle h)

theorem moves_linkLost (s : State) : Moves s (linkLost s) := by
  unfold linkLost
  split
  · dsimp only
    split
    · exact moves_carryOutRestart ..
    · exact moves_warpLinkLost s
  · exact .refl s

/-! ### Reception and the service port -/

theorem moves_arrive (p : Port) (kind tag : Nat) (w : Waiting) (s : State) : Moves s (arrive p kind tag w s) := by
  unfold arrive
  split
  · rename_i h
    exact .event (.joins p w s h)
  · by_cases hroom : replyRoom p s
    · rw [if_pos (show s.replyCount p + (if s.delayed p then 1 else 0) < replyPlaces p from hroom)]
      exact .event (.reply p _ s hroom)
    · rw [if_neg (show ¬ s.replyCount p + (if s.delayed p then 1 else 0) < replyPlaces p from hroom)]
      exact .same (ports_countFramingError p s)

theorem moves_takeFound (p : Port) (l : List (Option Record)) : ∀ s : State, Moves s (takeFound p l s) := by
  induction l with
  | nil => exact .refl
  | cons x l ih =>
    intro s
    cases x with
    | none => exact .of_ports (ih _) (ports_countFramingError p s)
    | some r => exact .after (ih _) (moves_arrive ..)

theorem moves_bytesArrive (p : Port) (addr : Nat) (l : List Byte) (s : State) : Moves s (bytesArrive p addr l s) := by
  cases p with
  | tether =>
    show Moves s (tetherReceives l s)
    unfold tetherReceives
    split
    · exact .of_ports (moves_takeFound ..) rfl
    · exact .refl s
  | service =>
    show Moves s (serviceReceives addr l s)
    unfold serviceReceives
    split
    · split
      · exact .same (ports_countFramingError .service s)
      · exact moves_takeFound ..
    · exact .refl s

theorem moves_serviceReads (addr count : Nat) (s : State) : Moves s (serviceReads addr count s) := by
  have hread (r : Record) : Moves s (replyRead r s) := by
    unfold replyRead
    dsimp only
    split
    · exact moves_carryOutRestart ..
    · exact .event (.read s)
  unfold serviceReads
  split
  · split
    · exact .same rfl
    · rename_i r _ _
      refine .after (t := if r.bytes.length ≤ count then replyRead r s else s) (.same rfl) ?_
      split
      · exact hread r
      · exact .refl s
  · exact .refl s

theorem moves_restartTimesOut (s : State) : Moves s (restartTimesOut s) := by
  unfold restartTimesOut
  split
  · exact moves_carryOutRestart ..
  · exact .refl s

/-! ### Requests: taking, answering, waiting -/

theorem replyCount_of_ports {s t : State} (h : ports t = ports s) (p : Port) : t.replyCount p = s.replyCount p := by
  cases p with
  | tether => exact congrArg (·.replies.length) h
  | service => exact congrArg (·.serviceReplies.length) h

theorem heldPlaces_of_ports {s t : State} (h : ports t = ports s) (p : Port) : t.heldPlaces p = s.heldPlaces p := by
  have hop : t.store.op = s.store.op := congrArg Ports.op h
  rw [State.heldPlaces, State.delayed, hop]
  rfl

theorem lengths_takeNext (t : Tether) :
    t.takeNext.replies.length ≤ t.replies.length ∧ t.takeNext.images.length ≤ t.images.length := by
  unfold Tether.takeNext
  split
  · split <;> simp [*]
  · simp

theorem lengths_pushNotice (t : Tether) (r : Record) :
    (t.pushNotice r).replies.length ≤ t.replies.length ∧ (t.pushNotice r).images.length ≤ t.images.length := by
  unfold Tether.pushNotice
  split
  · exact lengths_takeNext { t with notices := t.notices ++ [r] }
  · simp

/-- Notices take no reply place. -/
theorem replyRoom_of_notifies {p : Port} {s t : State} (h : Notifies s t) (hs : replyRoom p s) : replyRoom p t := by
  refine h.keeps (P := replyRoom p) (fun hp hs => ?_) (fun {u} r hs => ?_) hs
  · simpa only [replyRoom, replyCount_of_ports hp, heldPlaces_of_ports hp] using hs
  · have hheld : (noticed r u).heldPlaces p = u.heldPlaces p := rfl
    have hcount : (noticed r u).replyCount p ≤ u.replyCount p := by
      cases p with
      | tether => exact (lengths_pushNotice u.tether r).1
      | service => exact le_rfl
    unfold replyRoom at hs ⊢
    omega

theorem replyRoom_taken {p : Port} {s : State} (h : s.mayTake p = true) : replyRoom p (s.taken p) := by
  have hserve : s.replyCount p < replyPlaces p ∧ s.delayed p = false := by
    simpa [State.mayTake, State.canServe] using (Bool.and_eq_true_iff.mp (Bool.and_eq_true_iff.mp h).1).2
  have hcount : (s.taken p).replyCount p = s.replyCount p := by cases p <;> rfl
  have hheld : (s.taken p).heldPlaces p = s.heldPlaces p := by cases p <;> rfl
  unfold replyRoom
  rw [hcount, hheld]
  simpa [State.heldPlaces, hserve.2] using hserve.1

section
variable {q : Req} {i : Instr} {s t : State}

theorem moves_answer {a : Answer} (h : replyRoom q.port a.state) : Moves a.state (answer q i a) := by
  unfold answer
  split
  · exact .refl _
  · exact .event (.reply _ _ _ h)

theorem moves_answerMalformed {p : Port} (kind tag : Nat) (h : s.mayTake p = true) :
    Moves s (answerMalformed p kind tag s) :=
  .after (.event (.reply _ _ _ (replyRoom_taken h))) (.event (.taken p s))

theorem moves_requestWaits : Moves s (requestWaits q i s) := by
  unfold requestWaits
  split
  · split
    · exact .refl s
    · exact moves_arrive ..
  · exact moves_arrive ..

/-- A request moves the ports as its serving does from a state with room for its reply. -/
theorem asRequest_moves {serve : State → State} (hserve : ∀ u, replyRoom q.port u → Moves u (serve u))
    (h : asRequest q i serve s = .next t) : Moves s t := by
  refine asRequest_keeps (P := Moves s) (.refl s) (fun _ htakes _ => ?_) (fun _ _ => moves_requestWaits) h
  have hroom : replyRoom q.port (s.taken q.port) := replyRoom_taken (Bool.and_eq_true_iff.mp htakes).2
  refine .after ?_ (.event (.taken q.port s))
  unfold serveRequest
  split
  · exact moves_answer (a := refuse .refusedMode (s.taken q.port)) hroom
  · exact hserve _ hroom

variable {owner : State → Answer}

/-- A request whose owner only queues notices, its reply following them. -/
theorem ownedRequest_notifies (howner : ∀ u, Notifies u (owner u).state) (h : ownedRequest q i owner s = .next t) :
    Moves s t :=
  asRequest_moves (fun u hroom => .after (moves_answer (replyRoom_of_notifies (howner u) hroom)) (.notices (howner u))) h

/-- A request whose owner leaves the ports: all they see is its reply. -/
theorem ownedRequest_replies (howner : ∀ u, ports (owner u).state = ports u) (h : ownedRequest q i owner s = .next t) :
    Moves s t :=
  ownedRequest_notifies (fun u => .same (howner u)) h

theorem recordingRequest_moves (howner : ∀ u, Moves u (owner u).state) (h : recordingRequest q i owner s = .next t) :
    Moves s t := by
  refine asRequest_moves (fun u hroom => ?_) h
  unfold answerFirst
  split
  · exact howner u
  · exact .after (howner _) (.event (.reply _ _ u hroom))

theorem asEvent_moves (i : Instr) {effect : State → State} (heffect : Moves s (effect s))
    (h : asEvent i effect s = .next t) : Moves s t :=
  asEvent_keeps (P := Moves s) (.refl s) (fun _ _ => heffect) h

end

/-! ### Owners that leave the ports -/

section
variable (s : State)

@[simp] theorem ports_setTimingOwner (p : Option Nat) (a : Option PatternArg) (n : Option Nat) :
    ports (setTimingOwner p a n s).state = ports s := by
  have hperiod (u : State) : ports (applyPeriod p u) = ports u := by
    unfold applyPeriod
    split
    · rfl
    · split <;> rfl
  have hpattern (u : State) : ports (applyPattern a u) = ports u := by
    unfold applyPattern
    split
    · rfl
    · split <;> rfl
  have hindex (u : State) : ports (applyIndex n u) = ports u := by cases n <;> rfl
  unfold setTimingOwner
  split
  · rfl
  · split
    · rfl
    · exact (hindex _).trans ((hpattern _).trans (hperiod s))

@[simp] theorem ports_writeExposureTableOwner (l : List Nat) : ports (writeExposureTableOwner l s).state = ports s := by
  unfold writeExposureTableOwner okWith
  split
  · dsimp only
    split <;> rfl
  · rfl

theorem ports_pinFrameOwner (x : FrameTarget) : ports (pinFrameOwner x s).state = ports s := by
  cases x with
  | next =>
    show ports (pinNext s).state = ports s
    unfold pinNext
    split
    · rfl
    · split
      · rfl
      · split <;> rfl
  | tag n =>
    show ports (pinTag n s).state = ports s
    unfold pinTag
    split
    · rfl
    · split
      · rfl
      · split
        · rfl
        · split <;> rfl
  | other n => rfl

theorem ports_releaseFrameOwner (x : FrameTarget) : ports (releaseFrameOwner x s).state = ports s := by
  cases x with
  | next =>
    show ports (releaseNext s).state = ports s
    unfold releaseNext
    split
    · rfl
    · split <;> rfl
  | tag n =>
    show ports (releaseTag n s).state = ports s
    unfold releaseTag
    split
    · rfl
    · split
      · rfl
      · split
        · rfl
        · exact ports_freeIfDone ..
  | other n => rfl

@[simp] theorem ports_writeSectorMapOwner (l : List Nat) : ports (writeSectorMapOwner l s).state = ports s := by
  unfold writeSectorMapOwner
  split
  · rfl
  · split <;> rfl

@[simp] theorem ports_writeStatisticsSettingsOwner (g n : Nat) :
    ports (writeStatisticsSettingsOwner g n s).state = ports s := by
  unfold writeStatisticsSettingsOwner
  split
  · rfl
  · split <;> rfl

@[simp] theorem ports_writeToneSegmentOwner (n : Nat) (l : List Nat) : ports (writeToneSegmentOwner n l s).state = ports s := by
  unfold writeToneSegmentOwner
  split
  · rfl
  · split
    · rfl
    · split <;> rfl

theorem ports_readMapRegionOwner (a : RegionArg) : ports (readMapRegionOwner a s).state = ports s := by
  unfold readMapRegionOwner
  split <;> rfl

theorem ports_readMapRegionLinkedOwner (p : Port) (a : RegionArg) :
    ports (readMapRegionLinkedOwner p a s).state = ports s := by
  unfold readMapRegionLinkedOwner
  split
  · rfl
  · exact ports_setMapLink ..

@[simp] theorem ports_writeMapRegionOwner (a : RegionArg) (l : List Nat) :
    ports (writeMapRegionOwner a l s).state = ports s := by
  unfold writeMapRegionOwner
  split
  · rfl
  · split
    · rfl
    · exact ports_writeRegion ..

theorem ports_writeMapRegionConditionalOwner (p : Port) (a : RegionArg) (l : List Nat) :
    ports (writeMapRegionConditionalOwner p a l s).state = ports s := by
  unfold writeMapRegionConditionalOwner
  split
  · exact ports_setMapLink ..
  · split
    · exact (ports_writeRegion ..).trans (ports_setMapLink ..)
    · exact ports_setMapLink ..

@[simp] theorem ports_setDarkRefreshOwner (e n : Nat) : ports (setDarkRefreshOwner e n s).state = ports s := by
  unfold setDarkRefreshOwner
  split
  · rfl
  · split <;> rfl

theorem ports_startDarkAcquisitionOwner (n : Nat) : ports (startDarkAcquisitionOwner n s).state = ports s := by
  unfold startDarkAcquisitionOwner
  split
  · rfl
  · split
    · rfl
    · split <;> rfl

theorem ports_startFlatFieldAcquisitionOwner (n target : Nat) :
    ports (startFlatFieldAcquisitionOwner n target s).state = ports s := by
  unfold startFlatFieldAcquisitionOwner
  split
  · rfl
  · split
    · rfl
    · split
      · split <;> rfl
      · rfl

@[simp] theorem ports_writeProfileOwner (x : Privilege) (n : Nat) (d : ProfileArg) :
    ports (writeProfileOwner x n d s).state = ports s := by
  unfold writeProfileOwner
  split
  · rfl
  · split
    · rfl
    · split
      · rfl
      · split <;> rfl

theorem ports_readProfileOwner (n : Nat) : ports (readProfileOwner n s).state = ports s := by
  unfold readProfileOwner
  split <;> rfl

@[simp] theorem ports_setProfileLimitOwner (n : Nat) : ports (setProfileLimitOwner n s).state = ports s := by
  unfold setProfileLimitOwner
  split
  · rfl
  · split
    · rfl
    · split <;> rfl

@[simp] theorem ports_writeRadialTableOwner (x : Privilege) (n : Nat) (l : List Nat) :
    ports (writeRadialTableOwner x n l s).state = ports s := by
  unfold writeRadialTableOwner
  split
  · rfl
  · split
    · rfl
    · split
      · rfl
      · split <;> rfl

theorem ports_readRadialTableOwner (n : Nat) : ports (readRadialTableOwner n s).state = ports s := by
  unfold readRadialTableOwner
  split <;> rfl

@[simp] theorem ports_writeChannelTableOwner (k : Nat) (a : ChannelArg) :
    ports (writeChannelTableOwner k a s).state = ports s := by
  unfold writeChannelTableOwner
  split
  · rfl
  · split
    · rfl
    · split <;> rfl

@[simp] theorem ports_writeRingBudgetOwner (b : Nat) : ports (writeRingBudgetOwner b s).state = ports s := by
  unfold writeRingBudgetOwner
  split
  · rfl
  · split
    · rfl
    · split <;> rfl

@[simp] theorem ports_writeBalanceSettingsOwner (a : BalanceArg) : ports (writeBalanceSettingsOwner a s).state = ports s := by
  unfold writeBalanceSettingsOwner
  split
  · rfl
  · split <;> rfl

@[simp] theorem ports_writeGlareTableOwner (n : Nat) (l : List Nat) : ports (writeGlareTableOwner n l s).state = ports s := by
  unfold writeGlareTableOwner
  split
  · rfl
  · split
    · rfl
    · split <;> rfl

theorem ports_setDriveOwner (l : List Nat) : ports (setDriveOwner l s).state = ports s := by
  unfold setDriveOwner
  split
  · rfl
  · split
    · rfl
    · split
      · rfl
      · split <;> rfl

@[simp] theorem ports_writeSupervisionLimitsOwner (a b c d : Nat) :
    ports (writeSupervisionLimitsOwner a b c d s).state = ports s := by
  unfold writeSupervisionLimitsOwner
  split
  · rfl
  · split <;> rfl

theorem ports_clearFaultsOwner (l : List Nat) : ports (clearFaultsOwner l s).state = ports s := by
  have hkind (k : FaultKind) (u : State) : ports (clearKind u k) = ports u := by
    unfold clearKind
    split <;> rfl
  have hkinds (ks : List FaultKind) : ∀ u : State, ports (ks.foldl clearKind u) = ports u := by
    induction ks with
    | nil => exact fun _ => rfl
    | cons k ks ih => exact fun u => (ih (clearKind u k)).trans (hkind k u)
  unfold clearFaultsOwner
  split
  · rfl
  · exact hkinds ..

@[simp] theorem ports_setFaultPolicyOwner (l : List PolicyArg) (n : Nat) :
    ports (setFaultPolicyOwner l n s).state = ports s := by
  unfold setFaultPolicyOwner
  split <;> rfl

theorem ports_storeReadPageOwner (n : Nat) : ports (storeReadPageOwner n s).state = ports s := by
  unfold storeReadPageOwner
  split
  · rfl
  · split <;> rfl

end

/-! ### Owners with an effect at the ports -/

theorem notifies_enterRunOwner (s : State) : Notifies s (enterRunOwner s).state := by
  have hring (u : State) : Notifies u (runRing u) := by
    unfold runRing
    dsimp only
    split
    · exact .of_ports (notifies_lightRing _) (ports_setDemand ..)
    · exact .of_ports (notifies_setRingState ..) (ports_setDemand ..)
  have hrun : Notifies s (beginRun s) :=
    .after (t := runRing (runSupervisor (dropLinks { s with mode := .run }))) (.of_ports (notifies_exposeFrame _) rfl)
      (.of_ports (hring _) rfl)
  unfold enterRunOwner
  split
  · exact .refl s
  · split
    · exact .refl s
    · split
      · exact .refl s
      · exact hrun

theorem moves_enterSetupOwner (s : State) : Moves s (enterSetupOwner s).state := by
  have hcapture (u : State) : ports (setupCapture u) = ports u := by
    have huses : ports (endFrameUses u) = ports u := by
      unfold endFrameUses
      split
      · rfl
      · exact ports_dropFrameUses ..
    exact huses
  have hring (u : State) : Notifies u (setupRing u) :=
    .after (.same (ports_setDemand false _)) (.of_ports (notifies_setRingState .off _) rfl)
  have hend : Notifies s (endAcquisition .aborted (setupConditioner (setupCapture { s with mode := .setup }))) :=
    .of_ports (notifies_endAcquisition ..) (hcapture { s with mode := .setup })
  have hviews : Notifies s
      (adoptViews (dropLinks (endAcquisition .aborted (setupConditioner (setupCapture { s with mode := .setup }))))) :=
    .after (notifies_adoptViews _) (hend.step rfl)
  unfold enterSetupOwner
  split
  · have hwarps := Moves.after (moves_setupWarps _) (.notices hviews)
    exact (hwarps.trans (.notices (hring _))).trans (.same rfl)
  · exact .refl s

theorem moves_abortAcquisitionOwner (s : State) : Moves s (abortAcquisitionOwner s).state := by
  unfold abortAcquisitionOwner
  split
  · exact .notices (notifies_endAcquisition ..)
  · exact .refl s

theorem moves_reviewFrameOwner (n slot : Nat) (s : State) : Moves s (reviewFrameOwner n slot s).state := by
  have hstart (v : View) (k : Nat) : Moves s (startReview v k s) :=
    .of_ports (moves_appendEntries ..) (ports_addUse ..)
  unfold reviewFrameOwner
  split
  · exact .refl s
  · split
    · exact .refl s
    · unfold reviewThrough
      split
      · exact .refl s
      · split
        · split <;> exact .refl s
        · split
          · exact .refl s
          · exact hstart ..

theorem notifies_bindViewOwner (slot n : Nat) (s : State) : Notifies s (bindViewOwner slot n s).state := by
  have hcancel (v : View) : ports (cancelProfile v s) = ports s := by
    unfold cancelProfile
    split
    · exact ports_cancelPending ..
    · rfl
  have hunbind (v : View) : Notifies s (unbindView v s) := by
    unfold unbindView
    split
    · exact .same (hcancel v)
    · split
      · exact .same ((ports_setPendingChange ..).trans (hcancel v))
      · exact .of_ports (notifies_makeNull ..) (hcancel v)
  have hbind (v : View) : ports (bindProfile v n s) = ports s := (ports_requestBuild ..).trans (ports_cancelPending v s)
  have houtcome (v : View) : Notifies s (bindOutcome v n s).2 := by
    unfold bindOutcome
    split
    · exact .refl s
    · split
      · exact hunbind v
      · split
        · exact .refl s
        · split
          · exact .refl s
          · split
            · exact .refl s
            · split
              · exact .same (ports_cancelPending v s)
              · split
                · exact .refl s
                · exact .same (hbind v)
  unfold bindViewOwner
  split
  · exact .refl s
  · exact houtcome _

theorem moves_completeBuild (v : View) (s : State) : Moves s (completeBuild v s) := by
  have hfinish (n : Nat) : ports (finishBuild v n s) = ports s :=
    (ports_setPendingChange ..).trans (ports_modifyBuffer ..)
  unfold completeBuild
  split
  · split
    · exact .same (hfinish _)
    · exact .notices (.of_ports (notifies_adopt ..) (hfinish _))
  · exact .refl s

/-! ### The Store Loader -/

section
variable {q : Req} {s t : State}

theorem storeWritePage_moves {page : Nat} {l : List Byte} (h : execStoreWritePage q page l s = .next t) : Moves s t := by
  refine asRequest_moves (fun u hroom => ?_) h
  have hrefuses (c : Code) : Moves u (answer q (.storeWritePage q page l) (refuse c u)) :=
    moves_answer (a := refuse c u) hroom
  unfold storeWritePageOwner
  split
  · exact hrefuses _
  · split
    · exact hrefuses _
    · split
      · exact hrefuses _
      · split
        · exact hrefuses _
        · refine .after (moves_answer (a := acceptedWith [] { u with store.op := some (.pageWrite page l) }) ?_)
            (.event (.operation _ u (by simp)))
          exact (Nat.le_add_right (u.replyCount q.port) _).trans_lt hroom

theorem storeCheck_moves (h : execStoreCheck q s = .next t) : Moves s t := by
  refine asRequest_moves (fun u hroom => ?_) h
  unfold storeCheckOwner
  split
  · exact moves_answer (a := refuse .opInProgress u) hroom
  · exact .event (.operation _ u fun r hr => by cases hr; exact hroom)

end

theorem moves_checkEnds (s : State) : Moves s (checkEnds s) := by
  unfold checkEnds
  split
  · rename_i q hop
    exact .of_ports (.event (.outcome q _ { s with freeCount := s.freeCount + 1 } hop)) rfl
  · exact .refl s

theorem moves_pageWriteEnds (s : State) : Moves s (pageWriteEnds s) := by
  unfold pageWriteEnds
  split
  · exact (Moves.event (.operation none s (by simp))).trans (.same rfl)
  · exact .refl s

theorem notifies_imageReadEnds (s : State) : Notifies s (imageReadEnds s) := by
  unfold imageReadEnds
  split
  · exact .after (notifies_loadEnd ..) (notifies_raise ..)
  · exact notifies_loadEnd ..
  · exact .same rfl
  · exact .refl s

theorem notifies_nextRecord (l : List StoredRecord) (n : Nat) (s : State) : Notifies s (nextRecord l n s) := by
  cases l with
  | nil => exact notifies_loadEnd ..
  | cons r l => exact .same rfl

theorem ports_storedOwner {i : Instr} {owner : State → Answer} (h : storedOwner i = some owner) (s : State) :
    ports (owner s).state = ports s := by
  cases i <;> cases h <;> simp

theorem ports_applyStored {r : StoredRecord} {first : Bool} {s t : State} (h : applyStored r first s = some t) :
    ports t = ports s := by
  unfold applyStored at h
  split at h
  · split at h
    · obtain ⟨o, -, rfl⟩ := Option.map_eq_some_iff.mp h
      unfold applyPortOptions Tether.withOptions
      dsimp only
      split <;> rfl
    · cases h
  · split at h
    · split at h
      · cases h
      · obtain ⟨owner, howner, haccepted⟩ := Option.bind_eq_some_iff.mp h
        have ht : t = (owner s).state := by
          unfold Answer.accepted at haccepted
          split at haccepted <;> cases haccepted <;> rfl
        rw [ht, ports_storedOwner howner]
    · cases h

theorem notifies_recordApplies (s : State) : Notifies s (recordApplies s) := by
  unfold recordApplies
  split
  · split
    · rename_i ht
      exact .of_ports (notifies_nextRecord ..) (ports_applyStored ht)
    · exact .after (notifies_nextRecord ..) (notifies_raise ..)
  · exact .refl s

/-! ### Every command and every step -/

/-- Whatever the command, the ports go through a sequence of events. -/
theorem exec_moves {i : Instr} {s t : State} (h : exec i s = .next t) : Moves s t := by
  cases i with
  | powerOn x => exact asEvent_moves (.powerOn x) (moves_resetWithStraps s s x) h
  | externalReset x => exact asEvent_moves (.externalReset x) (moves_resetWithStraps s s x) h
  | recordReceived p addr l => exact asEvent_moves (.recordReceived p addr l) (moves_bytesArrive p addr l s) h
  | serviceRead addr n => exact asEvent_moves (.serviceRead addr n) (moves_serviceReads addr n s) h
  | unknownKind q k => exact ownedRequest_replies (fun _ => rfl) h
  | queryStatus q => exact ownedRequest_replies (ports_clearErrors q.port) h
  | enterSetup q => exact recordingRequest_moves moves_enterSetupOwner h
  | enterRun q => exact ownedRequest_notifies notifies_enterRunOwner h
  | restart q =>
    refine asRequest_moves (fun u hroom => ?_) h
    unfold restartServe
    dsimp only
    split
    · exact moves_carryOutRestart ..
    · exact .of_ports (moves_answer (a := okWith [] { u with restartPending := some q.port }) hroom) rfl
  | restartReplyTimeout => exact asEvent_moves .restartReplyTimeout (moves_restartTimesOut s) h
  | setTiming q p a n => exact ownedRequest_replies (ports_setTimingOwner · p a n) h
  | writeExposureTable q l => exact ownedRequest_replies (ports_writeExposureTableOwner · l) h
  | pinFrame q x => exact ownedRequest_replies (ports_pinFrameOwner · x) h
  | releaseFrame q x => exact ownedRequest_replies (ports_releaseFrameOwner · x) h
  | queryFrames q => exact ownedRequest_replies (fun _ => rfl) h
  | writeSectorMap q l => exact ownedRequest_replies (ports_writeSectorMapOwner · l) h
  | writeStatisticsSettings q g n => exact ownedRequest_replies (ports_writeStatisticsSettingsOwner · g n) h
  | writeToneSegment q n l => exact ownedRequest_replies (ports_writeToneSegmentOwner · n l) h
  | queryStatistics q => exact ownedRequest_replies (fun _ => rfl) h
  | readMapRegion q a => exact ownedRequest_replies (ports_readMapRegionOwner · a) h
  | readMapRegionLinked q a => exact ownedRequest_replies (ports_readMapRegionLinkedOwner · q.port a) h
  | writeMapRegion q a l => exact ownedRequest_replies (ports_writeMapRegionOwner · a l) h
  | writeMapRegionConditional q a l =>
    exact ownedRequest_replies (ports_writeMapRegionConditionalOwner · q.port a l) h
  | setDarkRefresh q e n => exact ownedRequest_replies (ports_setDarkRefreshOwner · e n) h
  | startDarkAcquisition q n => exact ownedRequest_replies (ports_startDarkAcquisitionOwner · n) h
  | startFlatFieldAcquisition q n x => exact ownedRequest_replies (ports_startFlatFieldAcquisitionOwner · n x) h
  | abortAcquisition q => exact recordingRequest_moves moves_abortAcquisitionOwner h
  | writeProfile q n d => exact ownedRequest_replies (ports_writeProfileOwner · _ n d) h
  | readProfile q n => exact ownedRequest_replies (ports_readProfileOwner · n) h
  | setProfileLimit q n => exact ownedRequest_replies (ports_setProfileLimitOwner · n) h
  | writeRadialTable q n l => exact ownedRequest_replies (ports_writeRadialTableOwner · _ n l) h
  | readRadialTable q n => exact ownedRequest_replies (ports_readRadialTableOwner · n) h
  | bindView q v n => exact recordingRequest_moves (fun u => .notices (notifies_bindViewOwner v n u)) h
  | queryViews q => exact ownedRequest_replies (fun _ => rfl) h
  | reviewFrame q n v => exact recordingRequest_moves (moves_reviewFrameOwner n v) h
  | writeChannelTable q k a => exact ownedRequest_replies (ports_writeChannelTableOwner · k a) h
  | writeRingBudget q b => exact ownedRequest_replies (ports_writeRingBudgetOwner · b) h
  | writeBalanceSettings q a => exact ownedRequest_replies (ports_writeBalanceSettingsOwner · a) h
  | writeGlareTable q n l => exact ownedRequest_replies (ports_writeGlareTableOwner · n l) h
  | setDrive q l => exact ownedRequest_replies (ports_setDriveOwner · l) h
  | queryBalance q => exact ownedRequest_replies (fun _ => rfl) h
  | writeSupervisionLimits q a b c d => exact ownedRequest_replies (ports_writeSupervisionLimitsOwner · a b c d) h
  | queryTrip q => exact ownedRequest_replies (fun _ => rfl) h
  | queryFaults q => exact ownedRequest_replies (fun _ => rfl) h
  | clearFaults q l => exact ownedRequest_replies (ports_clearFaultsOwner · l) h
  | setFaultPolicy q l n => exact ownedRequest_replies (ports_setFaultPolicyOwner · l n) h
  | queryHead q => exact ownedRequest_replies (fun _ => rfl) h
  | storeWritePage q n l => exact storeWritePage_moves h
  | storeReadPage q n => exact ownedRequest_replies (ports_storeReadPageOwner · n) h
  | storeCheck q => exact storeCheck_moves h
  | pageWriteEnd => exact asEvent_moves .pageWriteEnd (moves_pageWriteEnds s) h
  | storeCheckEnd => exact asEvent_moves .storeCheckEnd (moves_checkEnds s) h
  | storeImageRead => exact asEvent_moves .storeImageRead (.notices (notifies_imageReadEnds s)) h
  | storedRecordApply => exact asEvent_moves .storedRecordApply (.notices (notifies_recordApplies s)) h
  | frameStart => exact asEvent_moves .frameStart (.notices (notifies_timerFrameStart s)) h
  | exposureEnd l => exact asEvent_moves (.exposureEnd l) (.notices (notifies_endExposure l s)) h
  | sensorRow l => exact asEvent_moves (.sensorRow l) (.same (ports_sensorRowArrives l s)) h
  | readoutCompletionLit => exact asEvent_moves .readoutCompletionLit (moves_completeLit s) h
  | readoutCompletionDark => exact asEvent_moves .readoutCompletionDark (.notices (notifies_completeDark s)) h
  | sensorTimeout => exact asEvent_moves .sensorTimeout (.notices (notifies_sensorTimesOut s)) h
  | warpTileComplete l => exact asEvent_moves (.warpTileComplete l) (moves_tileCompletes l s) h
  | imageRecordPlace => exact asEvent_moves .imageRecordPlace (moves_pumpWarp s) h
  | buildCompletion v => exact asEvent_moves (.buildCompletion v) (moves_completeBuild v s) h
  | recordSent => exact asEvent_moves .recordSent (moves_sendingEnds s) h
  | linkTrainingSuccess => exact asEvent_moves .linkTrainingSuccess (moves_trainingSucceeds s) h
  | linkTrainingFailure => exact asEvent_moves .linkTrainingFailure (.same (ports_trainingFails s)) h
  | retrainTimerExpiry => exact asEvent_moves .retrainTimerExpiry (.same (ports_retrainExpires s)) h
  | linkLoss => exact asEvent_moves .linkLoss (moves_linkLost s) h
  | expanderInterrupt b => exact asEvent_moves (.expanderInterrupt b) (.same (ports_interruptTakes b s)) h
  | pollTimerExpiry => exact asEvent_moves .pollTimerExpiry (.same (ports_askRead s)) h
  | confirmationTimerExpiry i => exact asEvent_moves (.confirmationTimerExpiry i) (.same (ports_confirmationExpires i s)) h
  | inputReadEnd a v n => exact asEvent_moves (.inputReadEnd a v n) (.notices (notifies_inputReadEnds a v n s)) h
  | supplyWriteEnd a => exact asEvent_moves (.supplyWriteEnd a) (.notices (notifies_supplyWriteEnds a s)) h
  | setUpWriteEnd a => exact asEvent_moves (.setUpWriteEnd a) (.notices (notifies_setUpWriteEnds a s)) h

theorem step_moves {s t : State} (h : step s = .next t) : Moves s t :=
  step_keeps (P := Moves s) (fun _ _ hs => hs.trans (.same rfl)) (fun _ _ _ hs hexec => hs.trans (exec_moves hexec))
    (fun _ kind tag _ hmay hs => hs.trans (moves_answerMalformed kind tag hmay)) (.refl s) h

/-- What every event at the ports keeps, every step keeps. -/
theorem step_keeps_of_events {P : State → Prop} (hevent : ∀ {s t}, PortEvent s t → P s → P t) {s t : State} (hs : P s)
    (h : step s = .next t) : P t :=
  (step_moves h).keeps hevent hs

/-! ### The queues stay within their places (R110, R168 to R171) -/

theorem queuesBounded_of_ports {s t : State} (h : ports t = ports s) (hs : s.queuesBounded) : t.queuesBounded := by
  have same {α : Type} (f : Ports → α) : f (ports t) = f (ports s) := congrArg f h
  have hheld := heldPlaces_of_ports h
  obtain ⟨htether, hservice, hreplies, hserviceReplies, hnotices, himages⟩ := hs
  refine ⟨?_, ?_, ?_, ?_, ?_, ?_⟩
  · exact (same (·.tetherQueue.length)).trans_le htether
  · exact (same (·.serviceQueue.length)).trans_le hservice
  · rw [hheld]
    exact (congrArg (· + _) (same (·.replies.length))).trans_le hreplies
  · rw [hheld]
    exact (congrArg (· + _) (same (·.serviceReplies.length))).trans_le hserviceReplies
  · exact (same (·.notices.length)).trans_le hnotices
  · exact (same (·.images.length)).trans_le himages

theorem notices_pushNotice {t : Tether} (r : Record) (h : t.notices.length ≤ Config.noticePlaces) :
    (t.pushNotice r).notices.length ≤ Config.noticePlaces := by
  unfold Tether.pushNotice
  split
  · rename_i hroom
    refine (notices_takeNext _).trans ?_
    simpa using hroom.2
  · exact h

theorem lengths_pushReply (t : Tether) (r : Record) :
    (t.pushReply r).replies.length ≤ t.replies.length + 1 ∧ (t.pushReply r).notices.length ≤ t.notices.length ∧
    (t.pushReply r).images.length ≤ t.images.length := by
  unfold Tether.pushReply
  split
  · obtain ⟨hreplies, himages⟩ := lengths_takeNext { t with replies := t.replies ++ [r] }
    exact ⟨hreplies.trans_eq (by simp), notices_takeNext _, himages⟩
  · simp

/-- The queues besides those of the replies keep to their places. -/
def othersBounded (s : State) : Prop :=
  s.tetherQueue.length ≤ Config.tetherRequestPlaces ∧ s.serviceQueue.length ≤ Config.serviceRequestPlaces ∧
  s.tether.notices.length ≤ Config.noticePlaces ∧ s.tether.images.length ≤ Config.imagePlaces

theorem queuesBounded_iff {s : State} :
    s.queuesBounded ↔ othersBounded s ∧ ∀ p, s.replyCount p + s.heldPlaces p ≤ replyPlaces p := by
  constructor
  · rintro ⟨htether, hservice, hreplies, hserviceReplies, hnotices, himages⟩
    refine ⟨⟨htether, hservice, hnotices, himages⟩, fun p => ?_⟩
    cases p with
    | tether => exact hreplies
    | service => exact hserviceReplies
  · rintro ⟨⟨htether, hservice, hnotices, himages⟩, hreplies⟩
    exact ⟨htether, hservice, hreplies .tether, hreplies .service, hnotices, himages⟩

/-- A reply takes a place of its own port only. -/
theorem queuesBounded_pushReply {p : Port} {r : Record} {s : State} (h : othersBounded s)
    (hroom : replyRoom p s) (hother : s.replyCount p.other + s.heldPlaces p.other ≤ replyPlaces p.other) :
    (pushReply p r s).queuesBounded := by
  obtain ⟨htether, hservice, hnotices, himages⟩ := h
  unfold replyRoom at hroom
  cases p with
  | tether =>
    obtain ⟨hr, hn, hi⟩ := lengths_pushReply s.tether r
    have hheld : (pushReply .tether r s).heldPlaces .tether = s.heldPlaces .tether := rfl
    refine ⟨htether, hservice, ?_, hother, hn.trans hnotices, hi.trans himages⟩
    rw [hheld]
    exact (Nat.add_le_add_right hr _).trans (by simp only [State.replyCount, replyPlaces] at hroom; omega)
  | service =>
    have hheld : (pushReply .service r s).heldPlaces .service = s.heldPlaces .service := rfl
    refine ⟨htether, hservice, hother, ?_, hnotices, himages⟩
    rw [hheld]
    simp only [pushReply, List.length_append, List.length_singleton]
    simp only [State.replyCount, replyPlaces] at hroom
    omega

theorem heldPlaces_check {q : Req} {s : State} (h : s.store.op = some (.check q)) (p : Port) :
    s.heldPlaces p = if q.port = p then 1 else 0 := by
  simp [State.heldPlaces, State.delayed, h]

theorem heldPlaces_of_not_check {s : State} (h : ∀ q, s.store.op ≠ some (.check q)) (p : Port) : s.heldPlaces p = 0 := by
  have hdelayed : s.delayed p = false := by
    unfold State.delayed
    split
    · rename_i q hop
      exact absurd hop (h q)
    · rfl
  simp [State.heldPlaces, hdelayed]

theorem queuesBounded_notifies {s t : State} (h : Notifies s t) (hs : s.queuesBounded) : t.queuesBounded := by
  refine h.keeps queuesBounded_of_ports (fun {u} r hu => ?_) hs
  obtain ⟨htether, hservice, hreplies, hserviceReplies, hnotices, himages⟩ := hu
  obtain ⟨hr, hi⟩ := lengths_pushNotice u.tether r
  exact ⟨htether, hservice, (Nat.add_le_add_right hr _).trans hreplies, hserviceReplies, notices_pushNotice r hnotices,
    hi.trans himages⟩

/-- No event at the ports overfills a queue. -/
theorem queuesBounded_event {s t : State} (h : PortEvent s t) (hs : s.queuesBounded) : t.queuesBounded := by
  obtain ⟨hothers, hbounded⟩ := queuesBounded_iff.mp hs
  cases h with
  | notices h => exact queuesBounded_notifies h hs
  | image r _ hengine hkeeps hroom =>
    obtain ⟨htether, hservice, hreplies, hserviceReplies, hnotices, himages⟩ := hs
    obtain ⟨hr, hi⟩ := lengths_takeNext { s.tether with images := s.tether.images ++ [r] }
    refine ⟨htether, hservice, (Nat.add_le_add_right hr _).trans hreplies, hserviceReplies,
      (notices_takeNext _).trans hnotices, hi.trans ?_⟩
    simpa [State.imageRoom] using hroom
  | warp w => exact hs
  | reply p r _ hroom => exact queuesBounded_pushReply hothers hroom (hbounded p.other)
  | outcome q r _ hop =>
    have hheld := heldPlaces_check hop
    have hfree (p : Port) : State.heldPlaces { s with store.op := none } p = 0 := heldPlaces_of_not_check (by simp) p
    have hcount (p : Port) : State.replyCount { s with store.op := none } p = s.replyCount p := by cases p <;> rfl
    refine queuesBounded_pushReply (s := { s with store.op := none }) hothers ?_ ?_
    · have := hbounded q.port
      simp only [hheld, if_true] at this
      unfold replyRoom
      rw [hfree, hcount]
      omega
    · rw [hfree, hcount]
      exact (Nat.le_add_right ..).trans (hbounded q.port.other)
  | operation x _ hroom =>
    have hcount (p : Port) : State.replyCount { s with store.op := x } p = s.replyCount p := by cases p <;> rfl
    refine queuesBounded_iff.mpr ⟨hothers, fun p => ?_⟩
    rw [hcount]
    by_cases hx : ∃ q, x = some (.check q)
    · obtain ⟨q, rfl⟩ := hx
      rw [heldPlaces_check rfl]
      split
      · rename_i hp
        have := hroom q rfl
        unfold replyRoom at this
        subst hp
        omega
      · exact (Nat.le_add_right ..).trans (hbounded p)
    · rw [heldPlaces_of_not_check fun q hq => hx ⟨q, hq⟩]
      exact (Nat.le_add_right ..).trans (hbounded p)
  | joins p w _ hroom =>
    obtain ⟨htether, hservice, hreplies, hserviceReplies, hrest⟩ := hs
    cases p with
    | tether =>
      refine ⟨?_, hservice, hreplies, hserviceReplies, hrest⟩
      exact (List.length_append ..).trans_le (Nat.succ_le_of_lt hroom)
    | service =>
      refine ⟨htether, ?_, hreplies, hserviceReplies, hrest⟩
      exact (List.length_append ..).trans_le (Nat.succ_le_of_lt hroom)
  | taken p =>
    obtain ⟨htether, hservice, hreplies, hserviceReplies, hrest⟩ := hs
    have hdrop (l : List Waiting) : (l.drop 1).length ≤ l.length := by simp
    cases p with
    | tether => exact ⟨(hdrop _).trans htether, hservice, hreplies, hserviceReplies, hrest⟩
    | service => exact ⟨htether, (hdrop _).trans hservice, hreplies, hserviceReplies, hrest⟩
  | sent =>
    obtain ⟨htether, hservice, hreplies, hserviceReplies, hnotices, himages⟩ := hs
    obtain ⟨hr, hi⟩ := lengths_takeNext { s.tether with sending := none }
    exact ⟨htether, hservice, (Nat.add_le_add_right hr _).trans hreplies, hserviceReplies,
      (notices_takeNext _).trans hnotices, hi.trans himages⟩
  | read =>
    obtain ⟨htether, hservice, hreplies, hserviceReplies, hrest⟩ := hs
    refine ⟨htether, hservice, hreplies, (Nat.add_le_add_right ?_ _).trans hserviceReplies, hrest⟩
    simp
  | linkUp => exact hs
  | linkLost w =>
    obtain ⟨htether, hservice, hreplies, hserviceReplies, -, -⟩ := hs
    exact ⟨htether, hservice, (Nat.add_le_add_right (Nat.zero_le _) _).trans hreplies, hserviceReplies, Nat.zero_le _,
      Nat.zero_le _⟩
  | reset x t _ u hsending hreplies hnotices himages =>
    refine queuesBounded_iff.mpr ⟨by simp [othersBounded, resetBlocks, State.reset, hnotices, himages], fun p => ?_⟩
    have hcount : (resetBlocks x t u).replyCount p = 0 := by
      cases p with
      | tether => simp [State.replyCount, resetBlocks, hreplies]
      | service => rfl
    rw [hcount, heldPlaces_of_not_check (by simp [resetBlocks, Store.atReset])]
    exact Nat.zero_le _

/-- Settles O6: no event at the ports overfills a queue, and a step is a sequence of them. -/
theorem queuesStayBounded : Obligations.QueuesStayBounded := by
  unfold Obligations.QueuesStayBounded
  exact fun _ _ hs h => step_keeps_of_events queuesBounded_event hs h

/-! ### Nothing is queued over a link that is not UP (R111, R112, R165, R169, R170) -/

theorem takeNext_of_not_up {t : Tether} (h : t.link ≠ .up) : t.takeNext = t := by simp [Tether.takeNext, h]

theorem pushNotice_of_not_up {t : Tether} (r : Record) (h : t.link ≠ .up) : t.pushNotice r = t := by
  simp [Tether.pushNotice, h]

theorem pushReply_of_not_up {t : Tether} (r : Record) (h : t.link ≠ .up) : t.pushReply r = t := by
  simp [Tether.pushReply, h]

@[simp] theorem link_pushNotice (t : Tether) (r : Record) : (t.pushNotice r).link = t.link := by
  unfold Tether.pushNotice
  split
  · exact link_takeNext _
  · rfl

@[simp] theorem link_pushReply (t : Tether) (r : Record) : (t.pushReply r).link = t.link := by
  unfold Tether.pushReply
  split
  · exact link_takeNext _
  · rfl

theorem quietWhenDown_of_ports {s t : State} (h : ports t = ports s) (hs : s.quietWhenDown) : t.quietWhenDown := by
  have same {α : Type} (f : Ports → α) : f (ports t) = f (ports s) := congrArg f h
  have hup : t.tether.link = .up ↔ s.tether.link = .up := decide_eq_decide.mp (same (·.up))
  intro hdown
  obtain ⟨hsending, hreplies, hnotices, himages, hwarp⟩ := hs (mt hup.mpr hdown)
  refine ⟨(same (·.sending)).trans hsending, (same (·.replies)).trans hreplies, (same (·.notices)).trans hnotices,
    (same (·.images)).trans himages, fun hengine => (same (·.discarding)).trans (hwarp ?_)⟩
  exact fun hidle => hengine ((same (·.engine)).trans hidle)

/-- A change of the tether port that comes only over a link that is UP, and leaves it UP, keeps the quiet. -/
theorem quietWhenDown_withTether {s t : State} (hlink : t.tether.link = s.tether.link) (hwarp : t.warp = s.warp)
    (htether : s.tether.link ≠ .up → t.tether = s.tether) (hs : s.quietWhenDown) : t.quietWhenDown := by
  intro hdown
  rw [hlink] at hdown
  rw [htether hdown, hwarp]
  exact hs hdown

theorem quietWhenDown_notifies {s t : State} (h : Notifies s t) (hs : s.quietWhenDown) : t.quietWhenDown :=
  h.keeps quietWhenDown_of_ports
    (fun r hu => quietWhenDown_withTether (link_pushNotice ..) rfl (pushNotice_of_not_up r) hu) hs

theorem quietWhenDown_pushReply (p : Port) (r : Record) {s : State} (hs : s.quietWhenDown) :
    (pushReply p r s).quietWhenDown := by
  cases p with
  | tether => exact quietWhenDown_withTether (link_pushReply ..) rfl (pushReply_of_not_up r) hs
  | service => exact hs

/-- No event at the ports queues anything over a link that is not UP, or lets a warp keep its records there. -/
theorem quietWhenDown_event {s t : State} (h : PortEvent s t) (hs : s.quietWhenDown) : t.quietWhenDown := by
  cases h with
  | notices h => exact quietWhenDown_notifies h hs
  | image r _ hengine hkeeps hroom =>
    have hup : s.tether.link = .up := by
      by_contra hdown
      obtain ⟨-, -, -, -, hwarp⟩ := hs hdown
      simp [hwarp hengine] at hkeeps
    exact fun hdown => absurd ((link_takeNext { s.tether with images := s.tether.images ++ [r] }).trans hup) hdown
  | warp w _ hwarp =>
    intro hdown
    obtain ⟨hsending, hreplies, hnotices, himages, hdiscards⟩ := hs hdown
    refine ⟨hsending, hreplies, hnotices, himages, fun hengine => ?_⟩
    obtain h | ⟨hbefore, h⟩ := hwarp hdown hengine
    · exact h
    · exact h.trans (hdiscards hbefore)
  | reply p r _ hroom => exact quietWhenDown_pushReply p r hs
  | outcome q r _ hop => exact quietWhenDown_pushReply q.port r (s := { s with store.op := none }) hs
  | operation x => exact hs
  | joins p w => exact quietWhenDown_withTether (by simp) (by simp) (by simp) hs
  | taken p => exact quietWhenDown_withTether (by simp) (by simp) (by simp) hs
  | sent =>
    intro hdown
    have hlink : s.tether.link ≠ .up := fun hup => hdown ((link_takeNext _).trans hup)
    obtain ⟨-, hrest⟩ := hs hlink
    rw [takeNext_of_not_up (t := { s.tether with sending := none }) hlink]
    exact ⟨rfl, hrest⟩
  | read => exact hs
  | linkUp => exact fun hdown => absurd rfl hdown
  | linkLost w _ hwarp => exact fun _ => ⟨rfl, rfl, rfl, rfl, hwarp⟩
  | reset x t _ u hsending hreplies hnotices himages =>
    exact fun _ => ⟨hsending, hreplies, hnotices, himages, fun hengine => absurd rfl hengine⟩

/-- Settles O7: no event at the ports breaks the quiet of a link that is not UP, and a step is a sequence of them. -/
theorem linkDownStaysQuiet : Obligations.LinkDownStaysQuiet := by
  unfold Obligations.LinkDownStaysQuiet
  exact fun _ _ hs h => step_keeps_of_events quietWhenDown_event hs h

end Sys2Proof.Machine.PortQueues

/-! Proofs: the record that a free transmitter takes, and the one that takes its place in the image queue (R101 to R104,
R110, R170). -/

namespace Sys2Proof.Machine.Transmitter

/-! ### An entry's end (R8, R104) -/

theorem buffer_setBuffer (x : ViewSlot) (b : Nat) (m : MeshBuffer) : (x.setBuffer b m).buffer b = m := by
  by_cases hb : b = 0 <;> simp [ViewSlot.setBuffer, ViewSlot.buffer, hb]

theorem setBuffer_setBuffer (x : ViewSlot) (b : Nat) (m m' : MeshBuffer) :
    (x.setBuffer b m).setBuffer b m' = x.setBuffer b m' := by
  by_cases hb : b = 0 <;> simp [ViewSlot.setBuffer, hb]

theorem pending_setBuffer (x : ViewSlot) (b : Nat) (m : MeshBuffer) : (x.setBuffer b m).pending = x.pending := by
  by_cases hb : b = 0 <;> simp [ViewSlot.setBuffer, hb]

theorem setBuffer_withPending (x : ViewSlot) (b : Nat) (m : MeshBuffer) (p : PendingChange) :
    { x.setBuffer b m with pending := p } = { x with pending := p }.setBuffer b m := by
  by_cases hb : b = 0 <;> simp [ViewSlot.setBuffer, hb]

theorem setView_setView (s : State) (v : View) (x y : ViewSlot) : (s.setView v x).setView v y = s.setView v y := by
  cases v <;> rfl

theorem profile_setView (s : State) (v : View) (x : ViewSlot) (n : Nat) : (s.setView v x).profile n = s.profile n := by
  cases v <;> rfl

theorem startBuild_eq (v : View) (b n : Nat) (s : State) :
    startBuild v b n s = s.setView v
      ({ s.view v with pending := .profile n .building }.setBuffer b (((s.view v).buffer b).begun n (s.profile n))) := by
  simp only [startBuild, setPendingChange, modifyBuffer, State.view_setView, setView_setView, setBuffer_withPending]
  rfl

/-- A use of a buffer ends: the view slot is the one that Safety.lean describes. -/
theorem dropUse_eq (v : View) (b : Nat) (s : State) : dropUse v b s = s.setView v (s.viewAfterUse v b) := by
  unfold dropUse State.viewAfterUse
  dsimp only
  split
  · unfold releaseBuffer
    simp only [modifyBuffer, State.view_setView, pending_setBuffer]
    cases (s.view v).pending with
    | profile n w =>
      cases w with
      | waiting =>
        simp only [startBuild_eq, State.view_setView, setView_setView, profile_setView, buffer_setBuffer,
          ← setBuffer_withPending, setBuffer_setBuffer]
        rfl
      | building => rfl
      | ready => rfl
    | absent => rfl
    | unbind => rfl
  · rfl

/-- A slot's count falls by one entry; a HELD slot that is not pinned is freed with its last. -/
theorem releaseSlotUse_eq (n : Nat) (s : State) :
    releaseSlotUse n s =
      if (s.slot n).state = .held ∧ (s.slot n).pinned = false ∧ (s.slot n).count ≤ 1 then
        { s with
          slots := s.slots.modify n fun y => { y with state := .free, pinned := false, count := 0 }
          held := s.held.filter fun k => k ≠ n }
      else { s with slots := s.slots.modify n fun y => { y with count := y.count - 1 } } := by
  have hslot : (modifySlot n (fun x => { x with count := x.count - 1 }) s).slot n =
      { s.slot n with count := (s.slot n).count - 1 } := by
    simp only [modifySlot, State.slot, List.getD_eq_getElem?_getD, List.getElem?_modify_eq]
    cases s.slots[n]? <;> rfl
  unfold releaseSlotUse freeIfDone
  rw [hslot]
  simp only [Nat.sub_eq_zero_iff_le]
  split
  · simp only [freeSlot, modifySlot, List.modify_modify_eq]
    congr 2
    exact funext fun k => by by_cases hk : k = n <;> simp [hk]
  · rfl

theorem viewAfterUse_releaseSlotUse (n : Nat) (s : State) (v : View) (b : Nat) :
    (releaseSlotUse n s).viewAfterUse v b = s.viewAfterUse v b := by
  obtain ⟨x, y, h⟩ := releaseSlotUse_effect n s
  rw [h]
  cases v <;> rfl

theorem entryEnd_eq (e : WarpEntry) (s : State) : entryEnd e s = s.entryEnded e := by
  rw [entryEnd, dropUse_eq, viewAfterUse_releaseSlotUse, releaseSlotUse_eq]
  rfl

theorem entryEnded_with (e : WarpEntry) (t : Tether) (w : Warp) (s : State) :
    State.entryEnded { s with tether := t, warp := w } e = { s.entryEnded e with tether := t, warp := w } := by
  have hview : State.viewAfterUse { s with tether := t, warp := w } e.view e.buffer = s.viewAfterUse e.view e.buffer := by
    cases e.view <;> rfl
  have hslot : State.slot { s with tether := t, warp := w } e.slot = s.slot e.slot := rfl
  unfold State.entryEnded
  rw [hview, hslot]
  dsimp only
  split <;> cases e.view <;> rfl

/-! ### The transmitter -/

section
variable {t : Tether} {x : Record} {l : List Record} (hlink : t.link = .up)
include hlink

theorem takeNext_reply (h : t.replies = x :: l) :
    { t with sending := none }.takeNext = { t with sending := some x, replies := l } := by
  simp [Tether.takeNext, hlink, h]

theorem takeNext_notice (hreplies : t.replies = []) (h : t.notices = x :: l) :
    { t with sending := none }.takeNext = { t with sending := some x, notices := l } := by
  simp [Tether.takeNext, hlink, hreplies, h]

theorem takeNext_image (hreplies : t.replies = []) (hnotices : t.notices = []) (h : t.images = x :: l) :
    { t with sending := none }.takeNext = { t with sending := some x, images := l } := by
  simp [Tether.takeNext, hlink, hreplies, hnotices, h]

theorem takeNext_empty (hreplies : t.replies = []) (hnotices : t.notices = []) (h : t.images = []) :
    { t with sending := none }.takeNext = { t with sending := none } := by
  simp [Tether.takeNext, hlink, hreplies, hnotices, h]

end

/-- A record that joins the image queue of a busy transmitter waits there. -/
theorem pushImage_of_sending {s : State} {x : Record} (h : s.tether.sending = some x) (r : Record) :
    pushImage r s = { s with tether := { s.tether with images := s.tether.images ++ [r] } } := by
  simp [pushImage, Tether.pushImage, Tether.takeNext, h]

/-- The end of a record other than an awaited Restart reply. -/
theorem exec_recordSent {r : Record} {s : State} (hsending : s.tether.sending = some r)
    (h : s.restartPending ≠ some .tether ∨ r.kind ≠ 0x84 ∨ r.payload ≠ [0x00#8]) :
    exec .recordSent s = .next (pumpWarp { s with tether := { s.tether with sending := none }.takeNext }) := by
  have hother : ¬ (s.restartPending = some .tether ∧ r.isRestartReply = true) := by
    rintro ⟨hpending, hreply⟩
    obtain ⟨hkind, hpayload⟩ : r.kind = 0x84 ∧ r.payload = [0x00#8] := by
      simpa [Record.isRestartReply, u8, Code.value] using hreply
    obtain h | h | h := h
    · exact h hpending
    · exact h hkind
    · exact h hpayload
  have hends : sendingEnds s = pumpWarp { s with tether := { s.tether with sending := none }.takeNext } := by
    rw [sendingEnds, hsending]
    exact if_neg hother
  exact congrArg Host.Outcome.next hends

/-! ### What the Warp Engine does in one event -/

section
variable {s : State}

/-- The Warp Engine has nothing to place and no warp to start. -/
def still (s : State) : Prop :=
  (s.warp.engine = .idle ∧ s.warp.queue = []) ∨ (s.warp.engine = .running ∧ s.warp.waiting = .nothing)

/-- A warp that keeps its records finds the image queue full. -/
def blocked (s : State) : Prop := s.warp.engine ≠ .idle ∧ s.warp.discarding = false ∧ s.imageRoom = false

theorem placeBegin_eq_self (h : s.warp.engine ≠ .running ∨ s.warp.waiting ≠ .frameBegin ∨ s.imageRoom = false) :
    placeBegin s = s := by
  unfold placeBegin
  split
  · rename_i hengine hwaiting _
    simp [hengine, hwaiting] at h
    simp [h]
  · rfl

theorem placeTile_eq_self (h : s.warp.engine ≠ .running ∨ (∀ r, s.warp.waiting ≠ .tile r) ∨ s.imageRoom = false) :
    placeTile s = s := by
  unfold placeTile
  split
  · rename_i r hengine hwaiting
    simp [hengine, hwaiting] at h
    simp [h]
  · rfl

theorem placeEnd_eq_self (h : s.warp.engine ≠ .closing ∨ s.warp.discarding = false ∧ s.imageRoom = false) :
    placeEnd s = s := by
  unfold placeEnd
  split
  · rename_i hengine _
    simp [hengine] at h
    simp [h]
  · rfl

theorem startWarp_eq_self (h : s.warp.engine ≠ .idle ∨ s.warp.queue = []) : startWarp s = s := by
  unfold startWarp
  split
  · rename_i hengine hqueue
    simp [hengine, hqueue] at h
  · rfl

/-- Nothing comes about at the Warp Engine. -/
def settled (s : State) : Prop := placeBegin s = s ∧ placeTile s = s ∧ placeEnd s = s ∧ startWarp s = s

theorem settled_of_still (h : still s) : settled s := by
  obtain ⟨hengine, hqueue⟩ | ⟨hengine, hwaiting⟩ := h
  · exact ⟨placeBegin_eq_self (by simp [hengine]), placeTile_eq_self (by simp [hengine]),
      placeEnd_eq_self (by simp [hengine]), startWarp_eq_self (.inr hqueue)⟩
  · exact ⟨placeBegin_eq_self (by simp [hwaiting]), placeTile_eq_self (by simp [hwaiting]),
      placeEnd_eq_self (by simp [hengine]), startWarp_eq_self (by simp [hengine])⟩

theorem settled_of_blocked (h : blocked s) : settled s :=
  let ⟨hengine, hkeeps, hfull⟩ := h
  ⟨placeBegin_eq_self (.inr (.inr hfull)), placeTile_eq_self (.inr (.inr hfull)), placeEnd_eq_self (.inr ⟨hkeeps, hfull⟩),
    startWarp_eq_self (.inl hengine)⟩

theorem pumpWarp_of_settled (h : settled s) : pumpWarp s = s := by
  obtain ⟨hbegin, htile, hend, hstart⟩ := h
  simp only [pumpWarp, hbegin, htile, hend, hstart]

theorem pumpWarp_of_begin (h : settled (placeBegin s)) : pumpWarp s = placeBegin s := by
  obtain ⟨hbegin, htile, hend, hstart⟩ := h
  simp only [pumpWarp, hbegin, htile, hend, hstart]

theorem pumpWarp_of_tile (hb : placeBegin s = s) (h : settled (placeTile s)) : pumpWarp s = placeTile s := by
  obtain ⟨hbegin, -, hend, hstart⟩ := h
  simp only [pumpWarp, hb, hbegin, hend, hstart]

theorem pumpWarp_of_end (hb : placeBegin s = s) (ht : placeTile s = s) (h : settled (startWarp (placeEnd s))) :
    pumpWarp s = startWarp (placeEnd s) := by
  obtain ⟨hbegin, -⟩ := h
  simp only [pumpWarp, hb, ht, hbegin]

theorem tileDone_next {e : WarpEntry} {rest : List WarpEntry} (hqueue : s.warp.queue = e :: rest)
    (hnext : s.warp.next + 1 < e.tiles) :
    tileDone s = { s with warp.next := s.warp.next + 1, warp.corrupt := false, warp.waiting := .nothing } := by
  unfold tileDone
  split
  · rename_i h
    cases hqueue.symm.trans h
  · rename_i h
    cases hqueue.symm.trans h
    exact if_pos hnext

theorem tileDone_last {e : WarpEntry} {rest : List WarpEntry} (hqueue : s.warp.queue = e :: rest)
    (hlast : e.tiles ≤ s.warp.next + 1) :
    tileDone s = State.entryEnded
      { s with
        warp.queue := rest
        warp.engine := .closing
        warp.waiting := .nothing
        warp.corrupt := false
        warp.owed := some ⟨e.view, e.tag, true, s.warp.placed⟩ } e := by
  rw [← entryEnd_eq]
  unfold tileDone
  split
  · rename_i h
    cases hqueue.symm.trans h
  · rename_i h
    cases hqueue.symm.trans h
    exact if_neg hlast.not_gt

/-! ### A record takes the one free place (R110) -/

section
variable {x y : Record} {e : WarpEntry} {rest : List WarpEntry} {o : OwedEnd} (hsending : s.tether.sending = some x)
  (hkeeps : s.warp.discarding = false) (hone : s.tether.images.length + 1 = 16)
include hsending hkeeps hone

theorem placeBegin_eq (hengine : s.warp.engine = .running) (hqueue : s.warp.queue = e :: rest)
    (hwaiting : s.warp.waiting = .frameBegin) :
    placeBegin s = State.setSkip
      { s with
        tether := { s.tether with images := s.tether.images ++ [frameBeginRecord e (s.skip e.view)] }
        warp.waiting := .nothing } e.view 0 := by
  have hroom : s.imageRoom = true := decide_eq_true (by simp only [Config.imagePlaces]; omega)
  unfold placeBegin
  split
  · rename_i h
    cases hqueue.symm.trans h
    rw [if_pos ⟨hkeeps, hroom⟩, pushImage_of_sending (x := x) (by simpa using hsending)]
    cases e.view <;> rfl
  · rename_i h
    exact absurd hqueue (h _ _ hengine hwaiting)

theorem placeTile_eq (hengine : s.warp.engine = .running) (hwaiting : s.warp.waiting = .tile y) :
    placeTile s = tileDone
      { s with
        tether := { s.tether with images := s.tether.images ++ [y] }
        warp.placed := s.warp.placed + 1
        warp.waiting := .nothing } := by
  have hroom : s.imageRoom = true := decide_eq_true (by simp only [Config.imagePlaces]; omega)
  unfold placeTile
  split
  · rename_i h
    cases hwaiting.symm.trans h
    exact (if_pos ⟨hkeeps, hroom⟩).trans (congrArg tileDone (pushImage_of_sending (x := x) (by exact hsending) y))
  · rename_i h
    exact absurd hwaiting (h _ hengine)

theorem placeEnd_eq (hengine : s.warp.engine = .closing) (howed : s.warp.owed = some o) :
    placeEnd s = { s with
      tether := { s.tether with images := s.tether.images ++ [frameEndRecord o] }
      warp.engine := .idle, warp.owed := none } := by
  have hroom : s.imageRoom = true := decide_eq_true (by simp only [Config.imagePlaces]; omega)
  unfold placeEnd
  split
  · rename_i h
    cases howed.symm.trans h
    rw [if_neg (by simp [hkeeps]), if_pos hroom]
    exact pushImage_of_sending (x := x) (by exact hsending) _
  · rename_i h
    exact absurd howed (h _ hengine)

theorem pumpWarp_frameBegin (hengine : s.warp.engine = .running) (hqueue : s.warp.queue = e :: rest)
    (hwaiting : s.warp.waiting = .frameBegin) :
    pumpWarp s = State.setSkip
      { s with
        tether := { s.tether with images := s.tether.images ++ [frameBeginRecord e (s.skip e.view)] }
        warp.waiting := .nothing } e.view 0 := by
  have hplaced := placeBegin_eq hsending hkeeps hone hengine hqueue hwaiting
  have hsettled : settled (placeBegin s) := by
    rw [hplaced]
    exact settled_of_still (.inr (by simp [hengine]))
  exact (pumpWarp_of_begin hsettled).trans hplaced

theorem pumpWarp_tile_next (hengine : s.warp.engine = .running) (hqueue : s.warp.queue = e :: rest)
    (hwaiting : s.warp.waiting = .tile y) (hnext : s.warp.next + 1 < e.tiles) :
    pumpWarp s = { s with
      tether := { s.tether with images := s.tether.images ++ [y] }
      warp.waiting := .nothing, warp.next := s.warp.next + 1, warp.placed := s.warp.placed + 1, warp.corrupt := false } := by
  have hplaced := (placeTile_eq hsending hkeeps hone hengine hwaiting).trans (tileDone_next hqueue hnext)
  have hsettled : settled (placeTile s) := by
    rw [hplaced]
    exact settled_of_still (.inr ⟨hengine, rfl⟩)
  exact (pumpWarp_of_tile (placeBegin_eq_self (by simp [hwaiting])) hsettled).trans hplaced

theorem pumpWarp_tile_last (hengine : s.warp.engine = .running) (hqueue : s.warp.queue = e :: rest)
    (hwaiting : s.warp.waiting = .tile y) (hlast : e.tiles ≤ s.warp.next + 1) :
    pumpWarp s = State.entryEnded
      { s with
        tether := { s.tether with images := s.tether.images ++ [y] }
        warp := ⟨rest, .closing, .nothing, s.warp.next, s.warp.placed + 1, false, false,
          some ⟨e.view, e.tag, true, s.warp.placed + 1⟩⟩ } e := by
  have hplaced := (placeTile_eq hsending hkeeps hone hengine hwaiting).trans (tileDone_last hqueue hlast)
  simp only [hkeeps] at hplaced
  have hsettled : settled (placeTile s) := by
    rw [hplaced, entryEnded_with]
    refine settled_of_blocked ⟨by simp, rfl, ?_⟩
    simp [State.imageRoom, Config.imagePlaces, hone]
  exact (pumpWarp_of_tile (placeBegin_eq_self (by simp [hwaiting])) hsettled).trans hplaced

theorem pumpWarp_end_idle (hengine : s.warp.engine = .closing) (howed : s.warp.owed = some o)
    (hqueue : s.warp.queue = []) :
    pumpWarp s = { s with
      tether := { s.tether with images := s.tether.images ++ [frameEndRecord o] }
      warp.engine := .idle, warp.owed := none } := by
  have hplaced := placeEnd_eq hsending hkeeps hone hengine howed
  have hsettled : settled (placeEnd s) := by
    rw [hplaced]
    exact settled_of_still (.inl ⟨rfl, hqueue⟩)
  have ⟨_, _, _, hstart⟩ := hsettled
  have hpump := pumpWarp_of_end (placeBegin_eq_self (by simp [hengine])) (placeTile_eq_self (by simp [hengine]))
    (hstart.symm ▸ hsettled)
  exact hpump.trans (hstart.trans hplaced)

theorem pumpWarp_end_next (hengine : s.warp.engine = .closing) (howed : s.warp.owed = some o)
    (hqueue : s.warp.queue = e :: rest) (hlink : s.tether.link = .up) :
    pumpWarp s = { s with
      tether := { s.tether with images := s.tether.images ++ [frameEndRecord o] }
      warp := ⟨e :: rest, .running, .frameBegin, 0, 0, false, false, none⟩ } := by
  have hstarted : startWarp (placeEnd s) = { s with
      tether := { s.tether with images := s.tether.images ++ [frameEndRecord o] }
      warp := ⟨e :: rest, .running, .frameBegin, 0, 0, false, false, none⟩ } := by
    rw [placeEnd_eq hsending hkeeps hone hengine howed]
    simp only [startWarp, hqueue, hlink, if_true]
  have hsettled : settled (startWarp (placeEnd s)) := by
    rw [hstarted]
    refine settled_of_blocked ⟨by simp, rfl, ?_⟩
    simp [State.imageRoom, Config.imagePlaces, hone]
  have hpump := pumpWarp_of_end (placeBegin_eq_self (by simp [hengine])) (placeTile_eq_self (by simp [hengine])) hsettled
  exact hpump.trans hstarted

end

end

/-- The state in which the transmitter sends an image record, with those left behind it. -/
def sendingImage (x : Record) (l : List Record) (s : State) : State :=
  { s with tether := { s.tether with sending := some x, images := l } }

/-- Settles O21: the transmitter takes the oldest record of the highest rank, and the Warp Engine the one place that an image
record leaves. -/
theorem transmitterTakesByRank : Obligations.TransmitterTakesByRank := by
  unfold Obligations.TransmitterTakesByRank
  intro r s hsending hlink hother
  dsimp only
  have hsent := exec_recordSent hsending hother
  have hrest (t : Tether) (ht : t.images = s.tether.images)
      (h : still s ∨ s.warp.engine ≠ .idle ∧ s.warp.discarding = false ∧ 16 ≤ s.tether.images.length) :
      pumpWarp { s with tether := t } = { s with tether := t } := by
    refine pumpWarp_of_settled ?_
    obtain h | ⟨hengine, hkeeps, hfull⟩ := h
    · exact settled_of_still h
    · refine settled_of_blocked ⟨hengine, hkeeps, ?_⟩
      simp [State.imageRoom, Config.imagePlaces, ht, hfull]
  refine ⟨fun x l h hreplies => ?_, fun x l h hreplies hnotices => ?_, fun x l h hreplies hnotices himages => ?_,
    fun h hreplies hnotices himages => ?_, fun x l h hreplies hnotices himages hlength => ?_⟩
  · rw [hsent, takeNext_reply hlink hreplies]
    exact congrArg _ (hrest _ rfl h)
  · rw [hsent, takeNext_notice hlink hreplies hnotices]
    exact congrArg _ (hrest _ rfl h)
  · rw [hsent, takeNext_image hlink hreplies hnotices himages]
    exact congrArg _ (pumpWarp_of_settled (settled_of_still h))
  · rw [hsent, takeNext_empty hlink hreplies hnotices himages]
    exact congrArg _ (hrest _ rfl (.inl h))
  · obtain ⟨-, hkeeps, -⟩ := h
    have hone : (sendingImage x l s).tether.images.length + 1 = 16 := by simpa [sendingImage, himages] using hlength
    have hbusy : (sendingImage x l s).tether.sending = some x := rfl
    rw [hsent, takeNext_image hlink hreplies hnotices himages]
    refine ⟨fun e rest hruns hqueue => ⟨fun hwaiting => ?_, fun y hwaiting hnext => ?_, fun y hwaiting hlast => ?_⟩,
      fun o hcloses howed => ⟨fun hqueue => ?_, fun e rest hqueue => ?_⟩⟩
    · exact congrArg _ (pumpWarp_frameBegin hbusy hkeeps hone hruns hqueue hwaiting)
    · exact congrArg _ (pumpWarp_tile_next hbusy hkeeps hone hruns hqueue hwaiting hnext)
    · exact congrArg _ ((pumpWarp_tile_last hbusy hkeeps hone hruns hqueue hwaiting hlast).trans (entryEnded_with e _ _ s))
    · exact congrArg _ (pumpWarp_end_idle hbusy hkeeps hone hcloses howed hqueue)
    · exact congrArg _ (pumpWarp_end_next hbusy hkeeps hone hcloses howed hqueue hlink)

end Sys2Proof.Machine.Transmitter
